-- ==== Sys2Proof/Word.lean ====
section
/-! DEFINITION. The word types of the KFB (00_scope.md R10, R13). -/
namespace Sys2Proof

/-- A byte of the wire, an opcode, a length: `u8` (00_scope.md R10). -/
abbrev Byte := BitVec 8

/-- A 16-bit operand or prefix: `u16` (00_scope.md R10). -/
abbrev Half := BitVec 16

/-- A host register, a command word, a keystream word: `u32` (00_scope.md R10). -/
abbrev Word := BitVec 32

end Sys2Proof
end

