-- ==== Sys2Proof/Syntax.lean ====
section
/-! DEFINITION. The 24 commands of 30_encoding.md R113, one constructor per row of the opcode table. -/
namespace Sys2Proof

/-- A command word with a known OP, cut into the fields of 30_encoding.md R111 and R113. The reserved fields are
kept: a word whose reserved field is not zero IS that command, and it ends with BADARG (R112, R113). Log entry 14. -/
inductive Instr where
  /-- NOP, OP 0x00. -/
  | nop (reserved : BitVec 24)
  /-- SEED, OP 0x01. -/
  | seed (reserved : BitVec 24)
  /-- CLOSE, OP 0x02. -/
  | close (reserved : BitVec 24)
  /-- RESET, OP 0x03. -/
  | reset (reserved : BitVec 24)
  /-- TBL_WRITE, OP 0x10: A = index, B[8] = VAR, B[7:0] = LEN. -/
  | tblWrite (index : Byte) (reservedB : BitVec 7) (var : BitVec 1) (len : Byte)
  /-- TBL_FILL, OP 0x11: B[8] = VAR, B[7:0] = LEN. -/
  | tblFill (reservedA : Byte) (reservedB : BitVec 7) (var : BitVec 1) (len : Byte)
  /-- TBL_LOCK, OP 0x12. -/
  | tblLock (reserved : BitVec 24)
  /-- TBL_READ, OP 0x13: A = index. -/
  | tblRead (index : Byte) (reservedB : Half)
  /-- RX_PUSH, OP 0x20: B[7:0] = the inbound byte. -/
  | rxPush (reservedA : Byte) (reservedB : Byte) (byte : Byte)
  /-- FR_READ, OP 0x21: B = index. -/
  | frRead (reservedA : Byte) (index : Half)
  /-- FR_POP, OP 0x22. -/
  | frPop (reserved : BitVec 24)
  /-- TX_BEGIN, OP 0x30: A = plain opcode, B[1:0] = framing mode. -/
  | txBegin (opcode : Byte) (reservedB : BitVec 14) (mode : BitVec 2)
  /-- TX_ABORT, OP 0x31. -/
  | txAbort (reserved : BitVec 24)
  /-- BIT_MODE, OP 0x32. -/
  | bitMode (reserved : BitVec 24)
  /-- BYTE_MODE, OP 0x33. -/
  | byteMode (reserved : BitVec 24)
  /-- WR_BITS, OP 0x34: A = bit count n. -/
  | wrBits (n : Byte) (reservedB : Half)
  /-- WR_BYTE, OP 0x35: B[7:0] = value. -/
  | wrByte (reservedA : Byte) (reservedB : Byte) (value : Byte)
  /-- WR_SHORT_BE, OP 0x36: B = value. -/
  | wrShortBe (reservedA : Byte) (value : Half)
  /-- WR_SHORT_LE, OP 0x37: B = value. -/
  | wrShortLe (reservedA : Byte) (value : Half)
  /-- WR_INT_BE, OP 0x38. -/
  | wrIntBe (reserved : BitVec 24)
  /-- WR_LONG_BE, OP 0x39. -/
  | wrLongBe (reserved : BitVec 24)
  /-- WR_PLACEHOLDER, OP 0x3A. -/
  | wrPlaceholder (reserved : BitVec 24)
  /-- TX_SEND, OP 0x40. -/
  | txSend (reserved : BitVec 24)
  /-- TX_POP, OP 0x41. -/
  | txPop (reserved : BitVec 24)
  deriving DecidableEq, Repr

end Sys2Proof
end

