-- ==== Sys2Proof/WellFormed.lean ====
section
/-! DEFINITION. Which commands pass the argument check of 30_encoding.md R112. -/
namespace Sys2Proof

/-- A table entry is malformed when VAR = 1 and LEN ≠ 0 (41_size_table.md R199). -/
def entryFits (var : BitVec 1) (len : Byte) : Bool := var == 0 || len == 0

/-- 30_encoding.md R112: every reserved field is zero and every used field is in its range. A command that is not
well formed ends with BADARG. -/
def Instr.wellFormed : Instr → Bool
  | .nop r => r == 0
  | .seed r => r == 0
  | .close r => r == 0
  | .reset r => r == 0
  | .tblWrite _ rb v l => rb == 0 && entryFits v l
  | .tblFill ra rb v l => ra == 0 && rb == 0 && entryFits v l
  | .tblLock r => r == 0
  | .tblRead _ rb => rb == 0
  | .rxPush ra rb _ => ra == 0 && rb == 0
  | .frRead ra _ => ra == 0
  | .frPop r => r == 0
  | .txBegin _ rb m => rb == 0 && m != 3
  | .txAbort r => r == 0
  | .bitMode r => r == 0
  | .byteMode r => r == 0
  | .wrBits n rb => rb == 0 && decide (1 ≤ n.toNat) && decide (n.toNat ≤ 32)
  | .wrByte ra rb _ => ra == 0 && rb == 0
  | .wrShortBe ra _ => ra == 0
  | .wrShortLe ra _ => ra == 0
  | .wrIntBe r => r == 0
  | .wrLongBe r => r == 0
  | .wrPlaceholder r => r == 0
  | .txSend r => r == 0
  | .txPop r => r == 0

end Sys2Proof
end

