-- ==== Sys2Proof/Decode.lean ====
section
/-! DEFINITION. The decoder of 30_encoding.md R110 to R115, total on all 2^32 words, and the encoder. -/
namespace Sys2Proof

/-- Why a word is no command: its OP is not in the map of 30_encoding.md R113 (R114). -/
inductive DecodeError where
  /-- The illegal OP, bits [31:24] of the word. -/
  | illegal (op : Byte)
  deriving DecidableEq, Repr

/-- Bits [31:24] of a command word (30_encoding.md R110). -/
def fieldOP (w : Word) : Byte := w.extractLsb' 24 8

/-- Bits [23:16] of a command word. -/
def fieldA (w : Word) : Byte := w.extractLsb' 16 8

/-- Bits [15:0] of a command word. -/
def fieldB (w : Word) : Half := w.extractLsb' 0 16

/-- Bits [23:0] of a command word, `cmd[23:0]`. -/
def fieldAB (w : Word) : BitVec 24 := w.extractLsb' 0 24

/-- The decoder: by OP alone (30_encoding.md R113), every other OP is ILLEGAL (R114). -/
def decode (w : Word) : Except DecodeError Instr :=
  match fieldOP w with
  | 0x00#8 => .ok (.nop (fieldAB w))
  | 0x01#8 => .ok (.seed (fieldAB w))
  | 0x02#8 => .ok (.close (fieldAB w))
  | 0x03#8 => .ok (.reset (fieldAB w))
  | 0x10#8 => .ok (.tblWrite (fieldA w) (w.extractLsb' 9 7) (w.extractLsb' 8 1) (w.extractLsb' 0 8))
  | 0x11#8 => .ok (.tblFill (fieldA w) (w.extractLsb' 9 7) (w.extractLsb' 8 1) (w.extractLsb' 0 8))
  | 0x12#8 => .ok (.tblLock (fieldAB w))
  | 0x13#8 => .ok (.tblRead (fieldA w) (fieldB w))
  | 0x20#8 => .ok (.rxPush (fieldA w) (w.extractLsb' 8 8) (w.extractLsb' 0 8))
  | 0x21#8 => .ok (.frRead (fieldA w) (fieldB w))
  | 0x22#8 => .ok (.frPop (fieldAB w))
  | 0x30#8 => .ok (.txBegin (fieldA w) (w.extractLsb' 2 14) (w.extractLsb' 0 2))
  | 0x31#8 => .ok (.txAbort (fieldAB w))
  | 0x32#8 => .ok (.bitMode (fieldAB w))
  | 0x33#8 => .ok (.byteMode (fieldAB w))
  | 0x34#8 => .ok (.wrBits (fieldA w) (fieldB w))
  | 0x35#8 => .ok (.wrByte (fieldA w) (w.extractLsb' 8 8) (w.extractLsb' 0 8))
  | 0x36#8 => .ok (.wrShortBe (fieldA w) (fieldB w))
  | 0x37#8 => .ok (.wrShortLe (fieldA w) (fieldB w))
  | 0x38#8 => .ok (.wrIntBe (fieldAB w))
  | 0x39#8 => .ok (.wrLongBe (fieldAB w))
  | 0x3A#8 => .ok (.wrPlaceholder (fieldAB w))
  | 0x40#8 => .ok (.txSend (fieldAB w))
  | 0x41#8 => .ok (.txPop (fieldAB w))
  | op => .error (.illegal op)

/-- The OP of a command (30_encoding.md R113). -/
def Instr.opCode : Instr → Byte
  | .nop _ => 0x00
  | .seed _ => 0x01
  | .close _ => 0x02
  | .reset _ => 0x03
  | .tblWrite _ _ _ _ => 0x10
  | .tblFill _ _ _ _ => 0x11
  | .tblLock _ => 0x12
  | .tblRead _ _ => 0x13
  | .rxPush _ _ _ => 0x20
  | .frRead _ _ => 0x21
  | .frPop _ => 0x22
  | .txBegin _ _ _ => 0x30
  | .txAbort _ => 0x31
  | .bitMode _ => 0x32
  | .byteMode _ => 0x33
  | .wrBits _ _ => 0x34
  | .wrByte _ _ _ => 0x35
  | .wrShortBe _ _ => 0x36
  | .wrShortLe _ _ => 0x37
  | .wrIntBe _ => 0x38
  | .wrLongBe _ => 0x39
  | .wrPlaceholder _ => 0x3A
  | .txSend _ => 0x40
  | .txPop _ => 0x41

/-- Bits [23:0] of a command's word, field by field (30_encoding.md R111, R113). -/
def Instr.operands : Instr → BitVec 24
  | .nop r => r
  | .seed r => r
  | .close r => r
  | .reset r => r
  | .tblWrite i rb v l => i ++ rb ++ v ++ l
  | .tblFill ra rb v l => ra ++ rb ++ v ++ l
  | .tblLock r => r
  | .tblRead i rb => i ++ rb
  | .rxPush ra rb b => ra ++ rb ++ b
  | .frRead ra i => ra ++ i
  | .frPop r => r
  | .txBegin o rb m => o ++ rb ++ m
  | .txAbort r => r
  | .bitMode r => r
  | .byteMode r => r
  | .wrBits n rb => n ++ rb
  | .wrByte ra rb v => ra ++ rb ++ v
  | .wrShortBe ra v => ra ++ v
  | .wrShortLe ra v => ra ++ v
  | .wrIntBe r => r
  | .wrLongBe r => r
  | .wrPlaceholder r => r
  | .txSend r => r
  | .txPop r => r

/-- The command word of a command: OP in [31:24], operands below (30_encoding.md R110, R116). -/
def encode (i : Instr) : Word := i.opCode ++ i.operands

/-- The command the decoder reads from the low `nbits` bits of `w`, every bit above them zero. The block has one
command length, one 32-bit word (30_encoding.md R110). -/
def decodeTableWord (nbits w : Nat) : Option Instr :=
  match decode (BitVec.ofNat 32 (w % 2 ^ nbits)) with
  | .ok i => some i
  | .error _ => none

end Sys2Proof
end

