-- ==== Sys2Proof/Config.lean ====
section
/-! DEFINITION. The parameters of the block (00_scope.md R8) and its platform, and its one uninterpreted function. -/
namespace Sys2Proof

/-- Four 32-bit seed words `(w0, w1, w2, w3)` (00_scope.md R12, 40_session_keystream.md R153). -/
structure Seed where
  w0 : Word
  w1 : Word
  w2 : Word
  w3 : Word
  deriving DecidableEq, Repr

/-- KS_IMPL (00_scope.md R8, R12): the reference ISAAC of 40_session_keystream.md R170 to R174, or any other
generator. Log entries 3 and 4. -/
inductive KsImpl where
  | reference
  | other
  deriving DecidableEq, Repr

/-- IRQ_ROUTE (92_eei_decisions.md D24, 93_implementation_defined.md I12): how the IRQ line reaches the host's
controller (60_exceptions.md R351). Its three parts are R351's words; log entry 18. -/
structure IrqRoute where
  controller : Nat
  number : Nat
  priority : Nat
  deriving DecidableEq, Repr

/-- The parameters of 00_scope.md R8 and the platform's IRQ_ROUTE. They never change in a run. Log entries 2, 12 and
18. -/
structure Params where
  /-- TX_CAP, builder payload capacity in bytes. -/
  txCap : Nat
  /-- FR_DEPTH, frame FIFO depth in frames. -/
  frDepth : Nat
  /-- TXF_BYTES, TX FIFO capacity in bytes. -/
  txfBytes : Nat
  /-- MAX_PH, placeholders per outbound message. -/
  maxPh : Nat
  /-- KS_IMPL, the keystream generator. -/
  ksImpl : KsImpl
  /-- KFB_BASE, bus address of the register window. -/
  kfbBase : Nat
  /-- IRQ_ROUTE, where the platform takes the IRQ line. -/
  irqRoute : IrqRoute
  deriving DecidableEq, Repr

/-- The defaults of 00_scope.md R8. KFB_BASE has none there: DESIGN CHOICE 0, log entry 12.
Nor has IRQ_ROUTE: DESIGN CHOICE 0 in each part, log entry 18. -/
def Params.default : Params where
  txCap := 4096
  frDepth := 8
  txfBytes := 8192
  maxPh := 4
  ksImpl := .reference
  kfbBase := 0
  irqRoute := ⟨0, 0, 0⟩

/-- The legal ranges and the constraint of 00_scope.md R8. -/
structure Params.Legal (p : Params) : Prop where
  txCap_pos : 1 ≤ p.txCap
  txCap_le : p.txCap ≤ 65535
  frDepth_pos : 1 ≤ p.frDepth
  frDepth_le : p.frDepth ≤ 255
  txfBytes_ge : p.txCap + 3 ≤ p.txfBytes
  txfBytes_le : p.txfBytes ≤ 2 ^ 24 - 1
  maxPh_pos : 1 ≤ p.maxPh
  maxPh_le : p.maxPh ≤ 15

/-- The words of a KS_IMPL other than the reference (00_scope.md R12): word number `n`, counted from 0, of the
generator seeded with a seed. It has no body, so a claim holds for every deterministic generator. Log entry 3. -/
opaque Config.ksWord : Seed → Nat → Word

end Sys2Proof
end

