-- ==== Sys2Proof/Machine/State.lean ====
section
/-! DEFINITION. The state of the KFB as plain data (10_state.md), the reasons to stop, and reset. -/
namespace Sys2Proof.Machine

/-! ## Arrays -/

/-- 256 elements indexed by a byte: TABLE (10_state.md R34), mm and rsl (40_session_keystream.md R170). -/
structure Array256 (α : Type) where
  rows : List α
  size : rows.length = 256
  deriving DecidableEq, Repr

/-- A byte memory (TX_BUF, DF_BUF) as the list of its bytes that are not zero, addresses strictly rising; an
unlisted byte reads zero. Log entry 7. -/
abbrev Memory := List Host.Cell

/-- The canonical form of a memory: addresses strictly rising, no entry equal to the zero an unlisted address
reads as. -/
def Memory.wf : Memory → Bool
  | [] => true
  | [c] => c.2 != 0
  | c :: d :: m => c.2 != 0 && decide (c.1 < d.1) && Memory.wf (d :: m)

/-! ## Keystreams and session -/

/-- The state of the reference generator (40_session_keystream.md R170); `cnt` is 0..256. -/
structure IsaacState where
  mm : Array256 Word
  rsl : Array256 Word
  aa : Word
  bb : Word
  cc : Word
  cnt : Nat
  deriving DecidableEq, Repr

/-- KsState (00_scope.md R12): the state of one keystream instance. A generator other than the reference is a
function of its seed and of how often it has been advanced (40_session_keystream.md R150). Log entry 3. -/
inductive KsState where
  | reference (st : IsaacState)
  | other (seed : Seed) (advances : Nat)
  deriving DecidableEq, Repr

/-- The two keystreams of a session, KS_DEC and KS_ENC (10_state.md R33). -/
structure Session where
  dec : KsState
  enc : KsState
  deriving DecidableEq, Repr

/-! ## Table, deframer, framer -/

/-- One entry of TABLE: VALID, VAR, LEN (10_state.md R34). -/
structure TableEntry where
  valid : Bool
  var : Bool
  len : Byte
  deriving DecidableEq, Repr

/-- DF_PHASE: 0 OPC, 1 LEN, 2 PAY; 3 is never held (10_state.md R36). -/
inductive Phase where
  | opc
  | len
  | pay
  deriving DecidableEq, Repr

/-- One frame of FRQ (10_state.md R37). -/
structure Frame where
  opc : Byte
  len : Byte
  payload : List Byte
  deriving DecidableEq, Repr

/-- TX_MODE: 0 `Fixed`, 1 `VariableByte`, 2 `VariableShort`; 3 is never held (10_state.md R38). -/
inductive TxMode where
  | fixed
  | varByte
  | varShort
  deriving DecidableEq, Repr

/-- One entry of TXQ (10_state.md R40). -/
structure TxEntry where
  byte : Byte
  isStart : Bool
  isEnd : Bool
  deriving DecidableEq, Repr

/-! ## Result codes -/

/-- The failure codes of 60_exceptions.md R340, in ascending order from 0x01. OK, 0x00, is no failure. -/
inductive ErrorCode where
  | illegal
  | badArg
  | noSession
  | sessionExists
  | tableLocked
  | tableUnlocked
  | tableIncomplete
  | notOpen
  | alreadyOpen
  | mode
  | empty
  | range
  | overflow
  | phLimit
  | len
  | txFull
  | rxFull
  deriving DecidableEq, Repr

/-! ## The port -/

/-- The registers of the window (10_state.md section 6); reserved offsets name no register. -/
inductive Reg where
  | id
  | status
  | cmd
  | result
  | rval
  | data0
  | data1
  | data2
  | data3
  | errLog
  | irqEn
  | irqPend
  | frHead
  | dfState
  | txBytePos
  | txBitPos
  | txLevel
  deriving DecidableEq, Repr

/-- A host access on the bus: `width` in bytes, `addr` a bus address (00_scope.md R15, 20_memory.md R81). A write
that is not 32 bits wide is a bus error whatever it carries, so its value is not modelled. -/
inductive Access where
  | read (width : Nat) (addr : Nat)
  | write (width : Nat) (addr : Nat) (value : Word)
  deriving DecidableEq, Repr

/-- What reaches the block from outside: an access at its port, or a change of the level of RST. -/
inductive PortEvent where
  | access (a : Access)
  | rst (asserted : Bool)
  deriving DecidableEq, Repr

/-- What the port answered last. The model's own; log entries 8, 9 and 10. -/
inductive BusResponse where
  /-- No access yet. -/
  | none
  /-- A write completed (20_memory.md R90). -/
  | written
  /-- A read returned a value (20_memory.md R88). -/
  | readData (value : Word)
  /-- The platform's bus error response; a read returns no data (20_memory.md R81). -/
  | busError
  /-- The access came while RST was asserted: the spec gives no response, so no data is claimed. -/
  | unspecified
  /-- The address lies below KFB_BASE: the access is not for this block. -/
  | notSelected
  deriving DecidableEq, Repr

/-! ## The state -/

/-- Everything the spec gives the machine (10_state.md R56), the configuration, and the model's own port. -/
structure State where
  /-- The parameters of 00_scope.md R8; constant. Log entry 2. -/
  cfg : Params
  /-- SESSION is `session.isSome`; KS_DEC and KS_ENC exist while it is 1 (10_state.md R32, R33). Log entry 5. -/
  session : Option Session
  /-- TABLE[0..255] (10_state.md R34). -/
  table : Array256 TableEntry
  /-- TBL_LOCK (10_state.md R35). -/
  tblLock : Bool
  /-- DF_PHASE (10_state.md R36). -/
  dfPhase : Phase
  /-- DF_OPC (10_state.md R36). -/
  dfOpc : Byte
  /-- DF_LEN (10_state.md R36). -/
  dfLen : Byte
  /-- DF_CNT (10_state.md R36). -/
  dfCnt : Byte
  /-- DF_BUF[0..254] (10_state.md R36). -/
  dfBuf : Memory
  /-- FRQ, head first (10_state.md R37). -/
  frq : List Frame
  /-- TX_OPEN (10_state.md R38). -/
  txOpen : Bool
  /-- TX_OPCODE (10_state.md R38). -/
  txOpcode : Byte
  /-- TX_MODE (10_state.md R38). -/
  txMode : TxMode
  /-- TX_BITMODE (10_state.md R38). -/
  txBitMode : Bool
  /-- TX_BYTEPOS (10_state.md R38). -/
  txBytePos : BitVec 16
  /-- TX_BITPOS (10_state.md R38). -/
  txBitPos : BitVec 19
  /-- TX_BUF[0..TX_CAP-1] (10_state.md R38). -/
  txBuf : Memory
  /-- PH, in the order reserved (10_state.md R39). -/
  ph : List (BitVec 16)
  /-- TXQ, head first (10_state.md R40). -/
  txq : List TxEntry
  /-- DATA0 (10_state.md R45). -/
  data0 : Word
  /-- DATA1 (10_state.md R45). -/
  data1 : Word
  /-- DATA2 (10_state.md R45). -/
  data2 : Word
  /-- DATA3 (10_state.md R45). -/
  data3 : Word
  /-- RESULT (10_state.md R44). -/
  result : Word
  /-- RVAL (10_state.md R46). -/
  rval : Word
  /-- ERRLOG (10_state.md R47). -/
  errLog : Word
  /-- IRQ_EN (10_state.md R48). -/
  irqEn : Word
  /-- The level of the input RST (70_reset_and_hazards.md R380). The model's own; log entry 9. -/
  rst : Bool
  /-- What is still to come at the port, oldest first (20_memory.md R90). The model's own; log entry 1. -/
  port : List PortEvent
  /-- What the port answered last. The model's own; log entry 10. -/
  resp : BusResponse
  deriving DecidableEq, Repr

/-- A table entry after reset (10_state.md R56): VALID = 0. VAR and LEN are unspecified there, DESIGN CHOICE 0,
log entry 6. -/
def TableEntry.empty : TableEntry where
  valid := false
  var := false
  len := 0

/-- The machine right after reset (10_state.md R56, 70_reset_and_hazards.md R380), RST deasserted again, nothing
waiting at the port. The unspecified DF_BUF and TX_BUF read zero: DESIGN CHOICE, log entry 6. -/
def State.reset : State where
  cfg := Params.default
  session := none
  table := ⟨List.replicate 256 TableEntry.empty, List.length_replicate⟩
  tblLock := false
  dfPhase := .opc
  dfOpc := 0
  dfLen := 0
  dfCnt := 0
  dfBuf := []
  frq := []
  txOpen := false
  txOpcode := 0
  txMode := .fixed
  txBitMode := false
  txBytePos := 0
  txBitPos := 0
  txBuf := []
  ph := []
  txq := []
  data0 := 0
  data1 := 0
  data2 := 0
  data3 := 0
  result := 0
  rval := 0
  errLog := 0
  irqEn := 0
  rst := false
  port := []
  resp := .none

/-! ## Reasons to stop -/

/-- A step of the KFB never ends in a fault: the block takes no trap and cannot hang (60_exceptions.md R345,
70_reset_and_hazards.md R397), and a bus error is a response after which the machine goes on (20_memory.md R81).
So there is no constructor. Log entry 13. -/
inductive Fault where
  deriving DecidableEq, Repr

/-- A refusal says that the model gives an instruction no meaning. -/
inductive Refusal where
  /-- Raised by `exec` alone, for an instruction the model has no meaning for. Safe. No arm raises it now. -/
  | notModelled (mnemonic : String)
  deriving DecidableEq, Repr

end Sys2Proof.Machine
end

