-- ==== Sys2Proof/Machine/Flags.lean ====
section
/-! DEFINITION. Every flag and status word the spec computes (10_state.md R41 to R54, 60_exceptions.md R340, R342,
R350, R351) and every RVAL layout. -/
namespace Sys2Proof.Machine

/-! ## Result codes -/

/-- The code of a failure (60_exceptions.md R340). -/
def ErrorCode.code : ErrorCode → Byte
  | .illegal => 0x01
  | .badArg => 0x02
  | .noSession => 0x03
  | .sessionExists => 0x04
  | .tableLocked => 0x05
  | .tableUnlocked => 0x06
  | .tableIncomplete => 0x07
  | .notOpen => 0x08
  | .alreadyOpen => 0x09
  | .mode => 0x0A
  | .empty => 0x0B
  | .range => 0x0C
  | .overflow => 0x0D
  | .phLimit => 0x0E
  | .len => 0x0F
  | .txFull => 0x10
  | .rxFull => 0x11

/-- The ERRLOG bit of a failure: bit k for code k (10_state.md R47). -/
def ErrorCode.errBit (e : ErrorCode) : Word := 1#32 <<< e.code.toNat

/-- RESULT: OP in [15:8], CODE in [7:0] (10_state.md R44, 60_exceptions.md R342). -/
def resultWord (op code : Byte) : Word := 0#16 ++ op ++ code

/-! ## Field values -/

/-- DF_PHASE as its 2 bits (10_state.md R36). -/
def Phase.bits : Phase → BitVec 2
  | .opc => 0
  | .len => 1
  | .pay => 2

/-- TX_MODE as its 2 bits (10_state.md R38). -/
def TxMode.bits : TxMode → BitVec 2
  | .fixed => 0
  | .varByte => 1
  | .varShort => 2

/-! ## Computed registers -/

/-- ID (10_state.md R41). -/
def idWord : Word := 0x54535031

/-- STATUS (10_state.md R42). -/
def statusWord (s : State) : Word :=
  0#4 ++ BitVec.ofNat 8 s.frq.length ++ BitVec.ofNat 4 s.ph.length ++ s.txOpcode ++ s.dfPhase.bits ++ s.txMode.bits
    ++ BitVec.ofBool s.txBitMode ++ BitVec.ofBool s.txOpen ++ BitVec.ofBool s.tblLock ++ BitVec.ofBool s.session.isSome

/-- IRQ_PEND: FRAME, TX, ERR (10_state.md R49, 60_exceptions.md R350). -/
def irqPendWord (s : State) : Word :=
  0#29 ++ BitVec.ofBool (s.errLog != 0) ++ BitVec.ofBool (!s.txq.isEmpty) ++ BitVec.ofBool (!s.frq.isEmpty)

/-- FR_HEAD (10_state.md R50). -/
def frHeadWord (s : State) : Word :=
  match s.frq with
  | [] => 0
  | f :: _ => 1#1 ++ 0#15 ++ f.len ++ f.opc

/-- DF_STATE (10_state.md R51). -/
def dfStateWord (s : State) : Word := s.dfCnt ++ s.dfLen ++ s.dfOpc ++ 0#6 ++ s.dfPhase.bits

/-- TX_BYTEPOS as a register (10_state.md R52). -/
def txBytePosWord (s : State) : Word := 0#16 ++ s.txBytePos

/-- TX_BITPOS as a register (10_state.md R53). -/
def txBitPosWord (s : State) : Word := 0#13 ++ s.txBitPos

/-- TX_LEVEL (10_state.md R54). -/
def txLevelWord (s : State) : Word := 0#8 ++ BitVec.ofNat 24 s.txq.length

/-- The IRQ output line (60_exceptions.md R351). -/
def irqLine (s : State) : Bool :=
  (s.irqEn.getLsbD 0 && (irqPendWord s).getLsbD 0) || (s.irqEn.getLsbD 1 && (irqPendWord s).getLsbD 1)
    || (s.irqEn.getLsbD 2 && (irqPendWord s).getLsbD 2)

/-- The interrupt request the platform carries to the host: none while IRQ is deasserted, and while it is asserted a
request on the route IRQ_ROUTE. 20_memory.md R89 and 60_exceptions.md R351 leave the routing OPEN: that it is by level,
and the form of the route, are DESIGN CHOICE, log entry 18. -/
def irqRequest (s : State) : Option IrqRoute := if irqLine s = true then some s.cfg.irqRoute else none

/-! ## RVAL layouts -/

/-- RVAL of an opcode byte: plain opcode in [15:8], KS_ADV in [1], FRAME_DONE in [0] (42_deframer.md R220). -/
def rvalOpcode (opc : Byte) (frameDone : Bool) : Word := 0#16 ++ opc ++ 0#6 ++ 1#1 ++ BitVec.ofBool frameDone

/-- RVAL of TBL_READ: {1, VAR, LEN}, or 0 for an invalid entry (41_size_table.md R206). -/
def rvalTableEntry (e : TableEntry) : Word :=
  if e.valid then 0#22 ++ 1#1 ++ BitVec.ofBool e.var ++ e.len else 0

/-- RVAL of TX_POP: {start, end, byte} (44_transmit.md R310). -/
def rvalTxEntry (e : TxEntry) : Word := 0#22 ++ BitVec.ofBool e.isStart ++ BitVec.ofBool e.isEnd ++ e.byte

end Sys2Proof.Machine
end

