-- ==== Sys2Proof/Machine/Ops.lean ====
section
/-! DEFINITION. The shared operations: arrays, memories, the end of a command (60_exceptions.md R340 to R346),
the builder and the queues (00_scope.md R15). -/
namespace Sys2Proof.Machine

/-! ## Arrays of 256 -/

/-- A byte is an index of an array of 256. -/
theorem Byte.index_lt {α : Type} (t : Array256 α) (i : Byte) : i.toNat < t.rows.length :=
  t.size ▸ i.isLt

/-- Element `i`. -/
def Array256.get {α : Type} (t : Array256 α) (i : Byte) : α := t.rows[i.toNat]'(Byte.index_lt t i)

/-- Element `i` becomes `x`. -/
def Array256.set {α : Type} (t : Array256 α) (i : Byte) (x : α) : Array256 α :=
  ⟨t.rows.set i.toNat x, (List.length_set).trans t.size⟩

/-- Every element is `x`. -/
def Array256.fill {α : Type} (x : α) : Array256 α := ⟨List.replicate 256 x, List.length_replicate⟩

/-- Every element meets `p`. -/
def Array256.all {α : Type} (t : Array256 α) (p : α → Bool) : Bool := t.rows.all p

/-! ## Byte memories -/

/-- The byte at an address; an unlisted address reads zero (log entry 7). -/
def Memory.read : Memory → Nat → Byte
  | [], _ => 0
  | c :: m, a => if c.1 = a then c.2 else Memory.read m a

/-- One byte put in front of a memory; a zero is not listed. -/
def Memory.cons (a : Nat) (b : Byte) (m : Memory) : Memory := if b = 0 then m else (a, b) :: m

/-- Write one byte, keeping the canonical form. -/
def Memory.write : Memory → Nat → Byte → Memory
  | [], a, b => Memory.cons a b []
  | c :: m, a, b =>
    if a < c.1 then Memory.cons a b (c :: m)
    else if a = c.1 then Memory.cons a b m
    else c :: Memory.write m a b

/-- Write a byte sequence from an address upwards. -/
def Memory.writeBytes : Memory → Nat → List Byte → Memory
  | m, _, [] => m
  | m, a, b :: bs => Memory.writeBytes (Memory.write m a b) (a + 1) bs

/-- The `n` bytes from address 0. -/
def Memory.take (m : Memory) (n : Nat) : List Byte := (List.range n).map m.read

/-- Bit 7 − (p mod 8) of a byte, set to `x` (43_framer.md R262). -/
def putBitInByte (b : Byte) (p : Nat) (x : Bool) : Byte :=
  let m : Byte := 0x80#8 >>> (p % 8)
  if x then b ||| m else b &&& ~~~m

/-- `TxBit(p)`: bit 7 − (p mod 8) of byte p div 8 (00_scope.md R15, 43_framer.md R262). -/
def Memory.readBit (m : Memory) (p : Nat) : Bool := (m.read (p / 8)).getLsbD (7 - p % 8)

/-- `TxBit(p) <- x` (00_scope.md R15, 43_framer.md R262). -/
def Memory.writeBit (m : Memory) (p : Nat) (x : Bool) : Memory :=
  m.write (p / 8) (putBitInByte (m.read (p / 8)) p x)

/-- The low `n` bits of `v`, most significant first, from bit position `p` (43_framer.md R260). -/
def Memory.writeBits (m : Memory) (p : Nat) (v : Word) : Nat → Memory
  | 0 => m
  | n + 1 => Memory.writeBits (m.writeBit p (v.getLsbD n)) (p + 1) v n

/-! ## The end of a command -/

/-- What the pseudocode of a command ends with: `raise E`, or `ok(v)` with the state its writes make
(00_scope.md R16, R17). -/
abbrev CmdEnd := Except ErrorCode (State × Word)

/-- `ok(v)`: RESULT and RVAL are written (60_exceptions.md R342). -/
def succeed (op : Byte) (v : Word) (s : State) : State := { s with result := resultWord op 0x00, rval := v }

/-- `raise E`, the block's one exception entry (60_exceptions.md R341, R342, R345): RESULT, RVAL and the ERRLOG bit
of the code are written and nothing else. There is no return from it (R346). -/
def raise (op : Byte) (e : ErrorCode) (s : State) : State :=
  { s with result := resultWord op e.code, rval := 0, errLog := s.errLog ||| e.errBit }

/-- A command ends (60_exceptions.md R341, R342). -/
def endCommand (op : Byte) (s : State) : CmdEnd → Host.Outcome State Fault Refusal
  | .ok (t, v) => .next (succeed op v t)
  | .error e => .next (raise op e s)

/-! ## Reset and close -/

/-- Every state element takes its value of 10_state.md R56 (70_reset_and_hazards.md R380); the parameters and the
model's own port stay (log entry 11). -/
def hardReset (s : State) : State :=
  { State.reset with cfg := s.cfg, rst := s.rst, port := s.port, resp := s.resp }

/-- The builder closes: its fields and PH are cleared, TX_BUF keeps its bytes (43_framer.md R252, 44_transmit.md
R300, 40_session_keystream.md R165). -/
def closeBuilder (s : State) : State :=
  { s with
    txOpen := false, txOpcode := 0, txMode := .fixed, txBitMode := false,
    txBytePos := 0, txBitPos := 0, ph := [] }

/-- What CLOSE clears (40_session_keystream.md R165). -/
def closeSession (s : State) : State :=
  { closeBuilder s with
    session := none, dfPhase := .opc, dfOpc := 0, dfLen := 0, dfCnt := 0, frq := [], txq := [] }

/-! ## The builder -/

/-- `PutBytes(s)` (43_framer.md R268). -/
def putBytes (bs : List Byte) (s : State) : CmdEnd :=
  if s.txOpen = false then .error .notOpen
  else if s.txBitMode = true then .error .mode
  else if s.txBytePos.toNat + bs.length > s.cfg.txCap then .error .overflow
  else
    .ok ({ s with
      txBuf := s.txBuf.writeBytes s.txBytePos.toNat bs
      txBytePos := BitVec.ofNat 16 (s.txBytePos.toNat + bs.length) }, 0)

/-- The framing prefix for a payload of `n` bytes (44_transmit.md R300, R304). -/
def framingBytes (m : TxMode) (n : Nat) : List Byte :=
  match m with
  | .fixed => []
  | .varByte => [BitVec.ofNat 8 n]
  | .varShort => [BitVec.ofNat 8 (n / 256), BitVec.ofNat 8 n]

/-- The count of a placeholder at `p` in a payload of `n` bytes: the bytes after its position (44_transmit.md
R302). -/
def placeholderCount (n : Nat) (p : BitVec 16) : Nat := n - p.toNat - 1

/-- A count as the byte of a backfill, negated (44_transmit.md R302). -/
def negatedCount (c : Nat) : Byte := BitVec.ofNat 8 (256 - c)

/-- Every placeholder backfilled in a payload of `n` bytes (44_transmit.md R300, R302). -/
def backfill (n : Nat) (ph : List (BitVec 16)) (buf : List Byte) : List Byte :=
  ph.foldl (fun b p => b.set p.toNat (negatedCount (placeholderCount n p))) buf

/-- A message as TXQ entries, start on its first byte and end on its last (44_transmit.md R300). -/
def markMessage (isStart : Bool) : List Byte → List TxEntry
  | [] => []
  | [b] => [⟨b, isStart, true⟩]
  | b :: c :: bs => ⟨b, isStart, false⟩ :: markMessage false (c :: bs)

/-- The payload TX_SEND queues: TX_BUF[0 .. L-1] with the placeholders backfilled (44_transmit.md R300). -/
def finalPayload (s : State) : List Byte :=
  backfill s.txBytePos.toNat s.ph (s.txBuf.take s.txBytePos.toNat)

/-! ## Masking -/

/-- The plain opcode of a raw byte (42_deframer.md R222, 30_encoding.md R120). -/
def unmaskOpcode (raw : Byte) (w : Word) : Byte := raw - w.setWidth 8

/-- The masked opcode byte of a message (44_transmit.md R300, 30_encoding.md R120). -/
def maskOpcode (plain : Byte) (w : Word) : Byte := plain + w.setWidth 8

end Sys2Proof.Machine
end

