-- ==== Sys2Proof/Machine/Control.lean ====
section
/-! DEFINITION. The control commands NOP and RESET (45_control.md). -/
namespace Sys2Proof.Machine

/-- NOP (45_control.md R330). -/
def execNop (reserved : BitVec 24) (s : State) : Host.Outcome State Fault Refusal :=
  endCommand 0x00 s <|
    if reserved ≠ 0 then .error .badArg
    else .ok (s, 0)

/-- RESET (45_control.md R332): every state element takes its reset value, then RESULT holds OP 0x03. -/
def execReset (reserved : BitVec 24) (s : State) : Host.Outcome State Fault Refusal :=
  endCommand 0x03 s <|
    if reserved ≠ 0 then .error .badArg
    else .ok (hardReset s, 0)

end Sys2Proof.Machine
end

