-- ==== Sys2Proof/Machine/Keystream.lean ====
section
/-! DEFINITION. KS_IMPL: KsSeed and KsNext (00_scope.md R12), with the reference ISAAC of 40_session_keystream.md
R170 to R174. The reference is PRESUMED: the spec marks it as general knowledge (log entry 4). -/
namespace Sys2Proof.Machine

/-! ## The reference generator -/

/-- The eight words the mixing step updates (40_session_keystream.md R171). -/
structure MixWords where
  a : Word
  b : Word
  c : Word
  d : Word
  e : Word
  f : Word
  g : Word
  h : Word
  deriving DecidableEq, Repr

/-- `mix(a,b,c,d,e,f,g,h)` (40_session_keystream.md R171). -/
def isaacMix (x : MixWords) : MixWords :=
  let a := x.a ^^^ (x.b <<< 11)
  let d := x.d + a
  let b := x.b + x.c
  let b := b ^^^ (x.c >>> 2)
  let e := x.e + b
  let c := x.c + d
  let c := c ^^^ (d <<< 8)
  let f := x.f + c
  let d := d + e
  let d := d ^^^ (e >>> 16)
  let g := x.g + d
  let e := e + f
  let e := e ^^^ (f <<< 10)
  let h := x.h + e
  let f := f + g
  let f := f ^^^ (g >>> 4)
  let a := a + f
  let g := g + h
  let g := g ^^^ (h <<< 8)
  let b := b + g
  let h := h + a
  let h := h ^^^ (a >>> 9)
  let c := c + h
  let a := a + b
  ⟨a, b, c, d, e, f, g, h⟩

/-- Step `i` of the batch (40_session_keystream.md R172). -/
def isaacStep (s : IsaacState) (i : Byte) : IsaacState :=
  let x := s.mm.get i
  let turned :=
    match i.toNat % 4 with
    | 0 => s.aa ^^^ (s.aa <<< 13)
    | 1 => s.aa ^^^ (s.aa >>> 6)
    | 2 => s.aa ^^^ (s.aa <<< 2)
    | _ => s.aa ^^^ (s.aa >>> 16)
  let aa := s.mm.get (i + 128) + turned
  let y := s.mm.get ((x >>> 2).setWidth 8) + aa + s.bb
  let mm := s.mm.set i y
  let bb := mm.get ((y >>> 10).setWidth 8) + x
  { s with mm := mm, rsl := s.rsl.set i bb, aa := aa, bb := bb }

/-- `isaac(s)`, one batch of 256 words (40_session_keystream.md R172). -/
def isaacBatch (s : IsaacState) : IsaacState :=
  let cc := s.cc + 1
  (List.range 256).foldl (fun t i => isaacStep t (BitVec.ofNat 8 i)) { s with cc := cc, bb := s.bb + cc }

/-- The words added to the eight registers at the start of a seeding round (40_session_keystream.md R173). -/
def MixWords.addRow (x : MixWords) (t : Array256 Word) (i : Byte) : MixWords :=
  ⟨x.a + t.get i, x.b + t.get (i + 1), x.c + t.get (i + 2), x.d + t.get (i + 3),
    x.e + t.get (i + 4), x.f + t.get (i + 5), x.g + t.get (i + 6), x.h + t.get (i + 7)⟩

/-- `t[i..i+7] <- a, …, h` (40_session_keystream.md R173). -/
def MixWords.storeRow (x : MixWords) (t : Array256 Word) (i : Byte) : Array256 Word :=
  (((((((t.set i x.a).set (i + 1) x.b).set (i + 2) x.c).set (i + 3) x.d).set (i + 4) x.e).set (i + 5) x.f).set
    (i + 6) x.g).set (i + 7) x.h

/-- The first pass, over rsl (40_session_keystream.md R173): the registers and mm. -/
def seedFirstPass (rsl : Array256 Word) (x : MixWords) : MixWords × Array256 Word :=
  (List.range 32).foldl
    (fun acc k =>
      let y := isaacMix (acc.1.addRow rsl (BitVec.ofNat 8 (8 * k)))
      (y, y.storeRow acc.2 (BitVec.ofNat 8 (8 * k))))
    (x, Array256.fill 0)

/-- The second pass, over mm (40_session_keystream.md R173). -/
def seedSecondPass (acc : MixWords × Array256 Word) : MixWords × Array256 Word :=
  (List.range 32).foldl
    (fun acc k =>
      let y := isaacMix (acc.1.addRow acc.2 (BitVec.ofNat 8 (8 * k)))
      (y, y.storeRow acc.2 (BitVec.ofNat 8 (8 * k))))
    acc

/-- The golden-ratio word each register starts with (40_session_keystream.md R173). -/
def goldenRatio : Word := 0x9E3779B9

/-- KsSeed of the reference (40_session_keystream.md R173). -/
def isaacSeed (w : Seed) : IsaacState :=
  let rsl := ((((Array256.fill 0).set 0 w.w0).set 1 w.w1).set 2 w.w2).set 3 w.w3
  let x : MixWords :=
    ⟨goldenRatio, goldenRatio, goldenRatio, goldenRatio, goldenRatio, goldenRatio, goldenRatio, goldenRatio⟩
  let x := isaacMix (isaacMix (isaacMix (isaacMix x)))
  let mm := (seedSecondPass (seedFirstPass rsl x)).2
  { isaacBatch ⟨mm, rsl, 0, 0, 0, 0⟩ with cnt := 256 }

/-- KsNext of the reference (40_session_keystream.md R174). -/
def isaacNext (s : IsaacState) : IsaacState × Word :=
  let s := if s.cnt = 0 then { isaacBatch s with cnt := 256 } else s
  ({ s with cnt := s.cnt - 1 }, s.rsl.get (BitVec.ofNat 8 (s.cnt - 1)))

/-! ## KS_IMPL -/

/-- KsSeed (00_scope.md R12). -/
def ksSeed (k : KsImpl) (w : Seed) : KsState :=
  match k with
  | .reference => .reference (isaacSeed w)
  | .other => .other w 0

/-- KsNext (00_scope.md R12): the advanced state and the word. -/
def ksNext : KsState → KsState × Word
  | .reference st => (.reference (isaacNext st).1, (isaacNext st).2)
  | .other w n => (.other w (n + 1), Config.ksWord w n)

end Sys2Proof.Machine
end

