-- ==== Sys2Proof/Machine/Deframer.lean ====
section
/-! DEFINITION. The deframer commands RX_PUSH, FR_READ, FR_POP (42_deframer.md). -/
namespace Sys2Proof.Machine

/-- `FifoPush(FRQ, f)`, refused with RX_FULL when FRQ holds FR_DEPTH frames (42_deframer.md R220). The state pushed
into is `t`; `v` is RVAL. -/
def emitFrame (s t : State) (f : Frame) (v : Word) : CmdEnd :=
  if s.frq.length = s.cfg.frDepth then .error .rxFull
  else .ok ({ t with frq := s.frq ++ [f] }, v)

/-- An inbound byte in phase OPC: a raw opcode (42_deframer.md R220, R221, R222). -/
def deframeOpcode (ks : Session) (b : Byte) (s : State) : CmdEnd :=
  let opc := unmaskOpcode b (ksNext ks.dec).2
  let e := s.table.get opc
  let t := { s with session := some { ks with dec := (ksNext ks.dec).1 } }
  if e.var = false ∧ e.len = 0 then emitFrame s t ⟨opc, 0, []⟩ (rvalOpcode opc true)
  else if e.var = true then .ok ({ t with dfOpc := opc, dfPhase := .len }, rvalOpcode opc false)
  else .ok ({ t with dfOpc := opc, dfLen := e.len, dfCnt := 0, dfPhase := .pay }, rvalOpcode opc false)

/-- An inbound byte in phase LEN: the length byte (42_deframer.md R220, R223). -/
def deframeLength (b : Byte) (s : State) : CmdEnd :=
  if b = 0 then emitFrame s { s with dfPhase := .opc, dfOpc := 0 } ⟨s.dfOpc, 0, []⟩ 1
  else .ok ({ s with dfLen := b, dfCnt := 0, dfPhase := .pay }, 0)

/-- An inbound byte in phase PAY: a payload byte (42_deframer.md R220, R224). -/
def deframePayload (b : Byte) (s : State) : CmdEnd :=
  if s.dfCnt.toNat + 1 = s.dfLen.toNat then
    emitFrame s { s with dfPhase := .opc, dfOpc := 0, dfLen := 0, dfCnt := 0 }
      ⟨s.dfOpc, s.dfLen, s.dfBuf.take s.dfCnt.toNat ++ [b]⟩ 1
  else .ok ({ s with dfBuf := s.dfBuf.write s.dfCnt.toNat b, dfCnt := s.dfCnt + 1 }, 0)

/-- One inbound byte, by DF_PHASE (42_deframer.md R220). -/
def deframeByte (ks : Session) (b : Byte) (s : State) : CmdEnd :=
  match s.dfPhase with
  | .opc => deframeOpcode ks b s
  | .len => deframeLength b s
  | .pay => deframePayload b s

/-- RX_PUSH (42_deframer.md R220). -/
def execRxPush (reservedA reservedB byte : Byte) (s : State) : Host.Outcome State Fault Refusal :=
  endCommand 0x20 s <|
    if reservedA ≠ 0 ∨ reservedB ≠ 0 then .error .badArg
    else
      match s.session with
      | none => .error .noSession
      | some ks => deframeByte ks byte s

/-- FR_READ (42_deframer.md R230). -/
def execFrRead (reservedA : Byte) (index : Half) (s : State) : Host.Outcome State Fault Refusal :=
  endCommand 0x21 s <|
    if reservedA ≠ 0 then .error .badArg
    else
      match s.frq with
      | [] => .error .empty
      | f :: _ =>
        if f.len.toNat ≤ index.toNat then .error .range
        else .ok (s, (f.payload.getD index.toNat 0).setWidth 32)

/-- FR_POP (42_deframer.md R232). -/
def execFrPop (reserved : BitVec 24) (s : State) : Host.Outcome State Fault Refusal :=
  endCommand 0x22 s <|
    if reserved ≠ 0 then .error .badArg
    else
      match s.frq with
      | [] => .error .empty
      | _ :: rest => .ok ({ s with frq := rest }, 0)

end Sys2Proof.Machine
end

