-- ==== Sys2Proof/Machine/Operands.lean ====
section
/-! DEFINITION. Operand assembly (30_encoding.md R111, 40_session_keystream.md R153, R161): every operand form. -/
namespace Sys2Proof.Machine

/-! ## Seed words -/

/-- SEED_DELTA (00_scope.md R9). -/
def seedDelta : Word := 50

/-- The decode seed, `(D[0], D[1], D[2], D[3])` (40_session_keystream.md R160, R161). -/
def decodeSeed (s : State) : Seed := ⟨s.data0, s.data1, s.data2, s.data3⟩

/-- The encode seed, each word +50 modulo 2^32 (40_session_keystream.md R153, R160). -/
def encodeSeed (s : State) : Seed :=
  ⟨s.data0 + seedDelta, s.data1 + seedDelta, s.data2 + seedDelta, s.data3 + seedDelta⟩

/-! ## Values as wire bytes (20_memory.md R83) -/

/-- A 16-bit value, high byte first (43_framer.md R272). -/
def bytesShortBe (v : Half) : List Byte := [v.extractLsb' 8 8, v.extractLsb' 0 8]

/-- A 16-bit value, low byte first (43_framer.md R274). -/
def bytesShortLe (v : Half) : List Byte := [v.extractLsb' 0 8, v.extractLsb' 8 8]

/-- A 32-bit value, most significant byte first (43_framer.md R276). -/
def bytesIntBe (v : Word) : List Byte :=
  [v.extractLsb' 24 8, v.extractLsb' 16 8, v.extractLsb' 8 8, v.extractLsb' 0 8]

/-- The 64-bit value {DATA1, DATA0}, high half first (43_framer.md R278). -/
def bytesLongBe (hi lo : Word) : List Byte := bytesIntBe hi ++ bytesIntBe lo

/-! ## Bit counts, table entries, modes -/

/-- `mask[k]` for k = 0..32 (43_framer.md R264). -/
def bitMask (k : Nat) : Word := if k = 32 then 0xFFFFFFFF else (1#32 <<< k) - 1

/-- The table entry in B (41_size_table.md R199). -/
def entryOperand (var : BitVec 1) (len : Byte) : TableEntry := ⟨true, var == 1, len⟩

/-- The entry in B is none: VAR = 1 with LEN ≠ 0 (41_size_table.md R199). -/
def entryMalformed (var : BitVec 1) (len : Byte) : Bool := var == 1 && len != 0

/-- The framing mode in B[1:0]; 3 is out of range (43_framer.md R250). -/
def modeOperand (m : BitVec 2) : Option TxMode :=
  match m with
  | 0#2 => some .fixed
  | 1#2 => some .varByte
  | 2#2 => some .varShort
  | _ => none

end Sys2Proof.Machine
end

