-- ==== Sys2Proof/Machine/Framer.lean ====
section
/-! DEFINITION. The framer commands TX_BEGIN to WR_PLACEHOLDER (43_framer.md). -/
namespace Sys2Proof.Machine

/-- A fresh builder, TX_BUF all zero (43_framer.md R250). -/
def openBuilder (opcode : Byte) (m : TxMode) (s : State) : State :=
  { s with
    txOpen := true, txOpcode := opcode, txMode := m, txBitMode := false,
    txBytePos := 0, txBitPos := 0, ph := [], txBuf := [] }

/-- TX_BEGIN (43_framer.md R250). -/
def execTxBegin (opcode : Byte) (reservedB : BitVec 14) (mode : BitVec 2) (s : State) :
    Host.Outcome State Fault Refusal :=
  endCommand 0x30 s <|
    if reservedB ≠ 0 then .error .badArg
    else
      match modeOperand mode with
      | none => .error .badArg
      | some m =>
        if s.txOpen = true then .error .alreadyOpen
        else .ok (openBuilder opcode m s, 0)

/-- TX_ABORT (43_framer.md R252). -/
def execTxAbort (reserved : BitVec 24) (s : State) : Host.Outcome State Fault Refusal :=
  endCommand 0x31 s <|
    if reserved ≠ 0 then .error .badArg
    else if s.txOpen = false then .error .notOpen
    else .ok (closeBuilder s, 0)

/-- BIT_MODE (43_framer.md R256). -/
def execBitMode (reserved : BitVec 24) (s : State) : Host.Outcome State Fault Refusal :=
  endCommand 0x32 s <|
    if reserved ≠ 0 then .error .badArg
    else if s.txOpen = false then .error .notOpen
    else if s.txBitMode = true then .error .mode
    else .ok ({ s with txBitPos := BitVec.ofNat 19 (8 * s.txBytePos.toNat), txBitMode := true }, 0)

/-- `ceil8(p)` (00_scope.md R13). -/
def ceil8 (p : Nat) : Nat := (p + 7) / 8

/-- BYTE_MODE (43_framer.md R258). -/
def execByteMode (reserved : BitVec 24) (s : State) : Host.Outcome State Fault Refusal :=
  endCommand 0x33 s <|
    if reserved ≠ 0 then .error .badArg
    else if s.txOpen = false then .error .notOpen
    else if s.txBitMode = false then .error .mode
    else .ok ({ s with txBytePos := BitVec.ofNat 16 (ceil8 s.txBitPos.toNat), txBitMode := false }, 0)

/-- WR_BITS (43_framer.md R260, R262, R264). -/
def execWrBits (n : Byte) (reservedB : Half) (s : State) : Host.Outcome State Fault Refusal :=
  endCommand 0x34 s <|
    if reservedB ≠ 0 ∨ n = 0 ∨ 32 < n.toNat then .error .badArg
    else if s.txOpen = false then .error .notOpen
    else if s.txBitMode = false then .error .mode
    else if s.txBitPos.toNat + n.toNat > 8 * s.cfg.txCap then .error .overflow
    else
      .ok ({ s with
        txBuf := s.txBuf.writeBits s.txBitPos.toNat (s.data0 &&& bitMask n.toNat) n.toNat
        txBitPos := BitVec.ofNat 19 (s.txBitPos.toNat + n.toNat) }, 0)

/-- WR_BYTE (43_framer.md R270). -/
def execWrByte (reservedA reservedB value : Byte) (s : State) : Host.Outcome State Fault Refusal :=
  endCommand 0x35 s <|
    if reservedA ≠ 0 ∨ reservedB ≠ 0 then .error .badArg
    else putBytes [value] s

/-- WR_SHORT_BE (43_framer.md R272). -/
def execWrShortBe (reservedA : Byte) (value : Half) (s : State) : Host.Outcome State Fault Refusal :=
  endCommand 0x36 s <|
    if reservedA ≠ 0 then .error .badArg
    else putBytes (bytesShortBe value) s

/-- WR_SHORT_LE (43_framer.md R274). -/
def execWrShortLe (reservedA : Byte) (value : Half) (s : State) : Host.Outcome State Fault Refusal :=
  endCommand 0x37 s <|
    if reservedA ≠ 0 then .error .badArg
    else putBytes (bytesShortLe value) s

/-- WR_INT_BE (43_framer.md R276). -/
def execWrIntBe (reserved : BitVec 24) (s : State) : Host.Outcome State Fault Refusal :=
  endCommand 0x38 s <|
    if reserved ≠ 0 then .error .badArg
    else putBytes (bytesIntBe s.data0) s

/-- WR_LONG_BE (43_framer.md R278). -/
def execWrLongBe (reserved : BitVec 24) (s : State) : Host.Outcome State Fault Refusal :=
  endCommand 0x39 s <|
    if reserved ≠ 0 then .error .badArg
    else putBytes (bytesLongBe s.data1 s.data0) s

/-- WR_PLACEHOLDER (43_framer.md R280). -/
def execWrPlaceholder (reserved : BitVec 24) (s : State) : Host.Outcome State Fault Refusal :=
  endCommand 0x3A s <|
    if reserved ≠ 0 then .error .badArg
    else if s.txOpen = false then .error .notOpen
    else if s.txBitMode = true then .error .mode
    else if s.txBytePos.toNat + 1 > s.cfg.txCap then .error .overflow
    else if s.ph.length = s.cfg.maxPh then .error .phLimit
    else
      .ok ({ s with
        ph := s.ph ++ [s.txBytePos]
        txBuf := s.txBuf.write s.txBytePos.toNat 0
        txBytePos := BitVec.ofNat 16 (s.txBytePos.toNat + 1) }, 0)

end Sys2Proof.Machine
end

