-- ==== Sys2Proof/Machine/SessionCommands.lean ====
section
/-! DEFINITION. The session commands SEED and CLOSE (40_session_keystream.md section 3). -/
namespace Sys2Proof.Machine

/-- The session SEED creates: KS_DEC from the decode seed, KS_ENC from the encode seed (40_session_keystream.md
R150, R160). -/
def newSession (s : State) : Session :=
  ⟨ksSeed s.cfg.ksImpl (decodeSeed s), ksSeed s.cfg.ksImpl (encodeSeed s)⟩

/-- SEED (40_session_keystream.md R160). -/
def execSeed (reserved : BitVec 24) (s : State) : Host.Outcome State Fault Refusal :=
  endCommand 0x01 s <|
    if reserved ≠ 0 then .error .badArg
    else if s.session.isSome = true then .error .sessionExists
    else if s.tblLock = false then .error .tableUnlocked
    else .ok ({ s with session := some (newSession s) }, 0)

/-- CLOSE (40_session_keystream.md R165). -/
def execClose (reserved : BitVec 24) (s : State) : Host.Outcome State Fault Refusal :=
  endCommand 0x02 s <|
    if reserved ≠ 0 then .error .badArg
    else .ok (closeSession s, 0)

end Sys2Proof.Machine
end

