-- ==== Sys2Proof/Machine/SizeTable.lean ====
section
/-! DEFINITION. The size-table commands TBL_WRITE, TBL_FILL, TBL_LOCK, TBL_READ (41_size_table.md). -/
namespace Sys2Proof.Machine

/-- TBL_WRITE (41_size_table.md R200). -/
def execTblWrite (index : Byte) (reservedB : BitVec 7) (var : BitVec 1) (len : Byte) (s : State) :
    Host.Outcome State Fault Refusal :=
  endCommand 0x10 s <|
    if reservedB ≠ 0 then .error .badArg
    else if entryMalformed var len = true then .error .badArg
    else if s.tblLock = true then .error .tableLocked
    else .ok ({ s with table := s.table.set index (entryOperand var len) }, 0)

/-- TBL_FILL (41_size_table.md R202). -/
def execTblFill (reservedA : Byte) (reservedB : BitVec 7) (var : BitVec 1) (len : Byte) (s : State) :
    Host.Outcome State Fault Refusal :=
  endCommand 0x11 s <|
    if reservedA ≠ 0 ∨ reservedB ≠ 0 then .error .badArg
    else if entryMalformed var len = true then .error .badArg
    else if s.tblLock = true then .error .tableLocked
    else .ok ({ s with table := Array256.fill (entryOperand var len) }, 0)

/-- TBL_LOCK (41_size_table.md R204). -/
def execTblLock (reserved : BitVec 24) (s : State) : Host.Outcome State Fault Refusal :=
  endCommand 0x12 s <|
    if reserved ≠ 0 then .error .badArg
    else if s.tblLock = false ∧ s.table.all (fun e => e.valid) = false then .error .tableIncomplete
    else .ok ({ s with tblLock := true }, 0)

/-- TBL_READ (41_size_table.md R206). -/
def execTblRead (index : Byte) (reservedB : Half) (s : State) : Host.Outcome State Fault Refusal :=
  endCommand 0x13 s <|
    if reservedB ≠ 0 then .error .badArg
    else .ok (s, rvalTableEntry (s.table.get index))

end Sys2Proof.Machine
end

