-- ==== Sys2Proof/Machine/Transmit.lean ====
section
/-! DEFINITION. The transmit commands TX_SEND and TX_POP (44_transmit.md). -/
namespace Sys2Proof.Machine

/-- The bytes TX_SEND queues when the next word of KS_ENC is `w`: masked opcode, prefix, payload (44_transmit.md
R300, 30_encoding.md R119). -/
def outboundMessage (s : State) (w : Word) : List Byte :=
  maskOpcode s.txOpcode w :: (framingBytes s.txMode s.txBytePos.toNat ++ finalPayload s)

/-- TX_SEND's length checks: the prefix and every placeholder count fit (44_transmit.md R300, R302, R304). -/
def sendTooLong (s : State) : Bool :=
  (s.txMode == .varByte && decide (255 < s.txBytePos.toNat))
    || (s.txMode == .varShort && decide (65535 < s.txBytePos.toNat))
    || s.ph.any (fun p => decide (255 < placeholderCount s.txBytePos.toNat p))

/-- TX_SEND (44_transmit.md R300). -/
def execTxSend (reserved : BitVec 24) (s : State) : Host.Outcome State Fault Refusal :=
  endCommand 0x40 s <|
    if reserved ≠ 0 then .error .badArg
    else
      match s.session with
      | none => .error .noSession
      | some ks =>
        if s.txOpen = false then .error .notOpen
        else if s.txBitMode = true then .error .mode
        else if sendTooLong s = true then .error .len
        else if s.txq.length + 1 + (framingBytes s.txMode s.txBytePos.toNat).length + s.txBytePos.toNat
            > s.cfg.txfBytes then .error .txFull
        else
          let msg := outboundMessage s (ksNext ks.enc).2
          .ok ({ closeBuilder s with
            session := some { ks with enc := (ksNext ks.enc).1 }
            txq := s.txq ++ markMessage true msg }, BitVec.ofNat 32 msg.length)

/-- TX_POP (44_transmit.md R310). -/
def execTxPop (reserved : BitVec 24) (s : State) : Host.Outcome State Fault Refusal :=
  endCommand 0x41 s <|
    if reserved ≠ 0 then .error .badArg
    else
      match s.txq with
      | [] => .error .empty
      | e :: rest => .ok ({ s with txq := rest }, rvalTxEntry e)

end Sys2Proof.Machine
end

