-- ==== Sys2Proof/Machine/Dispatch.lean ====
section
/-! DEFINITION. One arm per command (30_encoding.md R113). -/
namespace Sys2Proof.Machine

def exec (i : Instr) (s : State) : Host.Outcome State Fault Refusal :=
  match i with
  | .nop r => Sys2Proof.Machine.execNop r s
  | .seed r => Sys2Proof.Machine.execSeed r s
  | .close r => Sys2Proof.Machine.execClose r s
  | .reset r => Sys2Proof.Machine.execReset r s
  | .tblWrite x rb v l => Sys2Proof.Machine.execTblWrite x rb v l s
  | .tblFill ra rb v l => Sys2Proof.Machine.execTblFill ra rb v l s
  | .tblLock r => Sys2Proof.Machine.execTblLock r s
  | .tblRead x rb => Sys2Proof.Machine.execTblRead x rb s
  | .rxPush ra rb b => Sys2Proof.Machine.execRxPush ra rb b s
  | .frRead ra x => Sys2Proof.Machine.execFrRead ra x s
  | .frPop r => Sys2Proof.Machine.execFrPop r s
  | .txBegin o rb m => Sys2Proof.Machine.execTxBegin o rb m s
  | .txAbort r => Sys2Proof.Machine.execTxAbort r s
  | .bitMode r => Sys2Proof.Machine.execBitMode r s
  | .byteMode r => Sys2Proof.Machine.execByteMode r s
  | .wrBits n rb => Sys2Proof.Machine.execWrBits n rb s
  | .wrByte ra rb v => Sys2Proof.Machine.execWrByte ra rb v s
  | .wrShortBe ra v => Sys2Proof.Machine.execWrShortBe ra v s
  | .wrShortLe ra v => Sys2Proof.Machine.execWrShortLe ra v s
  | .wrIntBe r => Sys2Proof.Machine.execWrIntBe r s
  | .wrLongBe r => Sys2Proof.Machine.execWrLongBe r s
  | .wrPlaceholder r => Sys2Proof.Machine.execWrPlaceholder r s
  | .txSend r => Sys2Proof.Machine.execTxSend r s
  | .txPop r => Sys2Proof.Machine.execTxPop r s

end Sys2Proof.Machine
end

