-- ==== Sys2Proof/Machine/Registers.lean ====
section
/-! DEFINITION. The register window (10_state.md section 6): offsets, reads, and the writes that run no command. -/
namespace Sys2Proof.Machine

/-- The byte offset of a register (10_state.md section 6). -/
def Reg.offset : Reg → Nat
  | .id => 0x00
  | .status => 0x04
  | .cmd => 0x08
  | .result => 0x0C
  | .rval => 0x10
  | .data0 => 0x14
  | .data1 => 0x18
  | .data2 => 0x1C
  | .data3 => 0x20
  | .errLog => 0x24
  | .irqEn => 0x28
  | .irqPend => 0x2C
  | .frHead => 0x30
  | .dfState => 0x34
  | .txBytePos => 0x38
  | .txBitPos => 0x3C
  | .txLevel => 0x40

/-- The register at an offset; none at a reserved offset (10_state.md R55). -/
def regAt (offset : Nat) : Option Reg :=
  match offset with
  | 0x00 => some .id
  | 0x04 => some .status
  | 0x08 => some .cmd
  | 0x0C => some .result
  | 0x10 => some .rval
  | 0x14 => some .data0
  | 0x18 => some .data1
  | 0x1C => some .data2
  | 0x20 => some .data3
  | 0x24 => some .errLog
  | 0x28 => some .irqEn
  | 0x2C => some .irqPend
  | 0x30 => some .frHead
  | 0x34 => some .dfState
  | 0x38 => some .txBytePos
  | 0x3C => some .txBitPos
  | 0x40 => some .txLevel
  | _ => none

/-- What a register reads as (10_state.md R41 to R54); CMD reads 0 (R43). -/
def readReg (r : Reg) (s : State) : Word :=
  match r with
  | .id => idWord
  | .status => statusWord s
  | .cmd => 0
  | .result => s.result
  | .rval => s.rval
  | .data0 => s.data0
  | .data1 => s.data1
  | .data2 => s.data2
  | .data3 => s.data3
  | .errLog => s.errLog
  | .irqEn => s.irqEn
  | .irqPend => irqPendWord s
  | .frHead => frHeadWord s
  | .dfState => dfStateWord s
  | .txBytePos => txBytePosWord s
  | .txBitPos => txBitPosWord s
  | .txLevel => txLevelWord s

/-- What an offset of the window reads as; a reserved offset reads 0 (10_state.md R55). -/
def readOffset (offset : Nat) (s : State) : Word :=
  match regAt offset with
  | some r => readReg r s
  | none => 0

/-- A write to a register other than CMD (20_memory.md R87): DATA0..3 store, IRQ_EN stores its three bits
(10_state.md R48), ERRLOG clears the bits written 1 (R47), every read-only register ignores the write. A CMD write
runs a command and is not handled here. -/
def storeReg (r : Reg) (v : Word) (s : State) : State :=
  match r with
  | .data0 => { s with data0 := v }
  | .data1 => { s with data1 := v }
  | .data2 => { s with data2 := v }
  | .data3 => { s with data3 := v }
  | .errLog => { s with errLog := s.errLog &&& ~~~v }
  | .irqEn => { s with irqEn := v &&& 7 }
  | .id => s
  | .status => s
  | .cmd => s
  | .result => s
  | .rval => s
  | .irqPend => s
  | .frHead => s
  | .dfState => s
  | .txBytePos => s
  | .txBitPos => s
  | .txLevel => s

end Sys2Proof.Machine
end

