-- ==== Sys2Proof/Machine/Port.lean ====
section
/-! DEFINITION. The bus port and the reset input (20_memory.md R80 to R90, 70_reset_and_hazards.md R380). -/
namespace Sys2Proof.Machine

/-- The access has the only legal form: 32 bits, at an offset that is a multiple of 4 and below 0x100
(20_memory.md R81). -/
def accessLegal (width offset : Nat) : Bool := width == 4 && offset % 4 == 0 && decide (offset < 0x100)

/-- The command word `w` is written to CMD (10_state.md R43): it is decoded and executed; an OP outside the map
fails with ILLEGAL (30_encoding.md R114). -/
def commandWrite (w : Word) (s : State) : Host.Outcome State Fault Refusal :=
  match decode w with
  | .ok i => exec i s
  | .error (.illegal op) => .next (raise op .illegal s)

/-- A legal write at an offset. A reserved offset ignores it (10_state.md R55). -/
def windowWrite (offset : Nat) (v : Word) (s : State) : Host.Outcome State Fault Refusal :=
  match regAt offset with
  | some .cmd => commandWrite v s
  | some r => .next (storeReg r v s)
  | none => .next s

/-- A bus error: the platform's response is returned and no state of the block changes (20_memory.md R81). Log
entry 8. -/
def busError (s : State) : State := { s with resp := .busError }

/-- One host access at the port. An address below KFB_BASE is not for this block (log entry 12). -/
def portAccess (a : Access) (s : State) : Host.Outcome State Fault Refusal :=
  match a with
  | .read width addr =>
    if addr < s.cfg.kfbBase then .next { s with resp := .notSelected }
    else if accessLegal width (addr - s.cfg.kfbBase) = true then
      .next { s with resp := .readData (readOffset (addr - s.cfg.kfbBase) s) }
    else .next (busError s)
  | .write width addr v =>
    if addr < s.cfg.kfbBase then .next { s with resp := .notSelected }
    else if accessLegal width (addr - s.cfg.kfbBase) = true then
      windowWrite (addr - s.cfg.kfbBase) v { s with resp := .written }
    else .next (busError s)

/-- One event at the port. While RST is asserted every state element holds its reset value and an access has no
effect on the block (70_reset_and_hazards.md R380, 60_exceptions.md R352); log entry 9. -/
def handleEvent (e : PortEvent) (s : State) : Host.Outcome State Fault Refusal :=
  match e with
  | .rst true => .next { hardReset s with rst := true }
  | .rst false => .next { s with rst := false }
  | .access a => if s.rst = true then .next { hardReset s with resp := .unspecified } else portAccess a s

/-- Nothing waits at the port: the block has no step of its own (10_state.md R30), and a held RST keeps every state
element at its reset value. -/
def idle (s : State) : Host.Outcome State Fault Refusal :=
  .next (if s.rst = true then hardReset s else s)

/-- The next event is taken from the port, in port order (20_memory.md R90). -/
def portStep (s : State) : Host.Outcome State Fault Refusal :=
  match s.port with
  | [] => idle s
  | e :: rest => handleEvent e { s with port := rest }

/-- The command word of the low `nbits` bits of `w`, every bit above them zero. -/
def tableWord (nbits w : Nat) : Word := BitVec.ofNat 32 (w % 2 ^ nbits)

/-- A CMD write of `w` is the next event at the port, with RST deasserted. -/
def presentCommand (w : Word) (s : State) : State :=
  { s with rst := false, port := .access (.write 4 (s.cfg.kfbBase + Reg.cmd.offset) w) :: s.port }

end Sys2Proof.Machine
end

