-- ==== Sys2Proof/Machine/Step.lean ====
section
/-! DEFINITION. One step: one event at the block's port (10_state.md R30, 20_memory.md R88, R90). -/
namespace Sys2Proof.Machine

/-- One step of the machine. -/
def step (s : State) : Host.Outcome State Fault Refusal := portStep s

/-- `s` with one more host access first at the port: the CMD write of the table's word. Log entry 1. -/
def State.withFetchWord (s : State) (nbits w : Nat) : State := presentCommand (tableWord nbits w) s

end Sys2Proof.Machine
end

