-- ==== Sys2Proof/Machine/HostStatements.lean ====
section
/-! DEFINITION. The assembler syntax of 30_encoding.md R116, and the host statements and pseudo-instructions of R117
as the accesses they put on the port of a block whose window stands at `base` (KFB_BASE). -/
namespace Sys2Proof.Machine

/-! ## Commands as written (30_encoding.md R116) -/

/-- An operand of a command as written: a number, or one of the words FIXED, VAR, VARBYTE, VARSHORT. -/
inductive AsmOperand where
  | num (n : Nat)
  | fixed
  | fixedLen (n : Nat)
  | var
  | varByte
  | varShort
  deriving DecidableEq, Repr

/-- A number that fits in `w` bits, as the field of a command. -/
def asmField (w n : Nat) : Option (BitVec w) := if n < 2 ^ w then some (BitVec.ofNat w n) else none

/-- The command that a mnemonic with no operands stands for. -/
def assemblePlain (mnemonic : String) : Option Instr :=
  match mnemonic with
  | "NOP" => some (.nop 0)
  | "SEED" => some (.seed 0)
  | "CLOSE" => some (.close 0)
  | "RESET" => some (.reset 0)
  | "TBL_LOCK" => some (.tblLock 0)
  | "FR_POP" => some (.frPop 0)
  | "TX_ABORT" => some (.txAbort 0)
  | "BIT_MODE" => some (.bitMode 0)
  | "BYTE_MODE" => some (.byteMode 0)
  | "WR_INT_BE" => some (.wrIntBe 0)
  | "WR_LONG_BE" => some (.wrLongBe 0)
  | "WR_PLACEHOLDER" => some (.wrPlaceholder 0)
  | "TX_SEND" => some (.txSend 0)
  | "TX_POP" => some (.txPop 0)
  | _ => none

/-- The command that a mnemonic with one operand stands for. -/
def assembleOne (mnemonic : String) (o : AsmOperand) : Option Instr :=
  match mnemonic, o with
  | "TBL_FILL", .fixedLen n => (asmField 8 n).map (.tblFill 0 0 0 ·)
  | "TBL_FILL", .var => some (.tblFill 0 0 1 0)
  | "TBL_READ", .num n => (asmField 8 n).map (.tblRead · 0)
  | "RX_PUSH", .num n => (asmField 8 n).map (.rxPush 0 0 ·)
  | "FR_READ", .num n => (asmField 16 n).map (.frRead 0 ·)
  | "WR_BITS", .num n => (asmField 8 n).map (.wrBits · 0)
  | "WR_BYTE", .num n => (asmField 8 n).map (.wrByte 0 0 ·)
  | "WR_SHORT_BE", .num n => (asmField 16 n).map (.wrShortBe 0 ·)
  | "WR_SHORT_LE", .num n => (asmField 16 n).map (.wrShortLe 0 ·)
  | _, _ => none

/-- The command that a mnemonic with two operands stands for; the first is a number. -/
def assembleTwo (mnemonic : String) (a : Byte) (o : AsmOperand) : Option Instr :=
  match mnemonic, o with
  | "TBL_WRITE", .fixedLen n => (asmField 8 n).map (.tblWrite a 0 0 ·)
  | "TBL_WRITE", .var => some (.tblWrite a 0 1 0)
  | "TX_BEGIN", .fixed => some (.txBegin a 0 0)
  | "TX_BEGIN", .varByte => some (.txBegin a 0 1)
  | "TX_BEGIN", .varShort => some (.txBegin a 0 2)
  | _, _ => none

/-- A command as written: its mnemonic and its operands (30_encoding.md R116). A form or a number the syntax does not
have stands for no command. -/
def assemble (mnemonic : String) (operands : List AsmOperand) : Option Instr :=
  match operands with
  | [] => assemblePlain mnemonic
  | [o] => assembleOne mnemonic o
  | [.num n, o] => (asmField 8 n).bind (assembleTwo mnemonic · o)
  | _ => none

/-! ## Host statements (30_encoding.md R117) -/

/-- `MemWrite(offset(r), 4, v)` (00_scope.md R15). -/
def hostWrite (base : Nat) (r : Reg) (v : Word) : PortEvent := .access (.write 4 (base + r.offset) v)

/-- `RD NAME` (30_encoding.md R117). -/
def hostRead (base : Nat) (r : Reg) : PortEvent := .access (.read 4 (base + r.offset))

/-- A command: its word written to CMD (30_encoding.md R110, R116). -/
def hostCommand (base : Nat) (i : Instr) : PortEvent := hostWrite base .cmd (encode i)

/-- `WRD D0, v32`. -/
def wrd0 (base : Nat) (v : Word) : PortEvent := hostWrite base .data0 v

/-- `WRD D1, v32`. -/
def wrd1 (base : Nat) (v : Word) : PortEvent := hostWrite base .data1 v

/-- `WRD D2, v32`. -/
def wrd2 (base : Nat) (v : Word) : PortEvent := hostWrite base .data2 v

/-- `WRD D3, v32`. -/
def wrd3 (base : Nat) (v : Word) : PortEvent := hostWrite base .data3 v

/-- `W1C ERRLOG, v32`. -/
def w1cErrLog (base : Nat) (v : Word) : PortEvent := hostWrite base .errLog v

/-- `WRIRQ v32`. -/
def wrIrq (base : Nat) (v : Word) : PortEvent := hostWrite base .irqEn v

/-- `SEED64 c64, e64` (30_encoding.md R117, 40_session_keystream.md R152, R161). -/
def seed64 (base : Nat) (c e : BitVec 64) : List PortEvent :=
  [wrd0 base (c.extractLsb' 0 32), wrd1 base (c.extractLsb' 32 32), wrd2 base (e.extractLsb' 0 32),
    wrd3 base (e.extractLsb' 32 32), hostCommand base (.seed 0)]

/-- `WRBITS n, v`. -/
def wrBitsOf (base : Nat) (n : Byte) (v : Word) : List PortEvent := [wrd0 base v, hostCommand base (.wrBits n 0)]

/-- `WRINT v32`. -/
def wrInt (base : Nat) (v : Word) : List PortEvent := [wrd0 base v, hostCommand base (.wrIntBe 0)]

/-- `WRLONG v64`. -/
def wrLong (base : Nat) (v : BitVec 64) : List PortEvent :=
  [wrd1 base (v.extractLsb' 32 32), wrd0 base (v.extractLsb' 0 32), hostCommand base (.wrLongBe 0)]

/-- `WRBYTES b0, …, bk`. -/
def wrBytes (base : Nat) (bs : List Byte) : List PortEvent := bs.map (fun b => hostCommand base (.wrByte 0 0 b))

/-- `RXBYTES b0, …, bk`. -/
def rxBytes (base : Nat) (bs : List Byte) : List PortEvent := bs.map (fun b => hostCommand base (.rxPush 0 0 b))

/-- The host issues an access and waits for it: it is the next event at the port (20_memory.md R90). -/
def issue (e : PortEvent) (s : State) : Host.Outcome State Fault Refusal := step { s with port := e :: s.port }

/-- At most `n` rounds of `while RD TX_LEVEL is non-zero: TX_POP`. A read that answers no data ends the loop. -/
def txDrainLoop (base : Nat) : Nat → State → Host.Outcome State Fault Refusal
  | 0, s => .next s
  | n + 1, s =>
    match issue (hostRead base .txLevel) s with
    | .fault r => .fault r
    | .refused r => .refused r
    | .next t =>
      match t.resp with
      | .none | .written | .busError | .unspecified | .notSelected => .next t
      | .readData level =>
        if level = 0 then .next t
        else
          match issue (hostCommand base (.txPop 0)) t with
          | .fault r => .fault r
          | .refused r => .refused r
          | .next u => txDrainLoop base n u

/-- `TXDRAIN`: TX_POP repeated while `RD TX_LEVEL` is non-zero. Every round takes one byte out of TXQ, so one round more
than TXQ has bytes reaches the read that answers zero. -/
def txDrain (base : Nat) (s : State) : Host.Outcome State Fault Refusal := txDrainLoop base (s.txq.length + 1) s

end Sys2Proof.Machine
end

