-- ==== Sys2Proof/Safety.lean ====
section
/-! DEFINITION. What a safe run is, and the words the statements use: how a command ends, the causes of failure, the
functional reading of the deframer. -/
namespace Sys2Proof.Machine

/-! ## How a command ends -/

/-- The command of OP `op` failed with `code`, having changed nothing but RESULT, RVAL and one ERRLOG bit
(60_exceptions.md R341, R342). -/
def failsWith (op code : Byte) (s : State) : Host.Outcome State Fault Refusal :=
  .next { s with result := 0#16 ++ op ++ code, rval := 0, errLog := s.errLog ||| (1#32 <<< code.toNat) }

/-- The command of OP `op` succeeded with RVAL `v`, its writes having made `t` (60_exceptions.md R342). -/
def endsOk (op : Byte) (v : Word) (t : State) : Host.Outcome State Fault Refusal :=
  .next { t with result := 0#16 ++ op ++ 0#8, rval := v }

/-- RESULT.CODE (10_state.md R44). -/
def State.code (s : State) : Byte := s.result.extractLsb' 0 8

/-- RESULT.OP (10_state.md R44). -/
def State.op (s : State) : Byte := s.result.extractLsb' 8 8

/-! ## Reset -/

/-- Every state element but RESULT for which 10_state.md R56 gives a reset value has it. -/
structure State.HasResetValues (t : State) : Prop where
  session : t.session = none
  valid : ∀ i, (t.table.get i).valid = false
  tblLock : t.tblLock = false
  deframer : t.dfPhase = .opc ∧ t.dfOpc = 0 ∧ t.dfLen = 0 ∧ t.dfCnt = 0
  frq : t.frq = []
  builder : t.txOpen = false ∧ t.txOpcode = 0 ∧ t.txMode = .fixed ∧ t.txBitMode = false ∧ t.txBytePos = 0
    ∧ t.txBitPos = 0
  ph : t.ph = []
  txq : t.txq = []
  data : t.data0 = 0 ∧ t.data1 = 0 ∧ t.data2 = 0 ∧ t.data3 = 0
  rval : t.rval = 0
  errLog : t.errLog = 0
  irqEn : t.irqEn = 0

/-! ## The port -/

/-- RST is deasserted and the access `a` is the next event at the port (20_memory.md R90). Every state in which an
access is about to take effect has this form. -/
def atPort (a : Access) (s : State) : State := { s with rst := false, port := .access a :: s.port }

/-- What remains of `atPort a s` when the port has taken the access and answers `r`. -/
def answered (r : BusResponse) (s : State) : State := { s with rst := false, resp := r }

/-- The OP is in none of the rows of the command map (30_encoding.md R114). -/
def IllegalOp (op : Nat) : Prop :=
  (0x04 ≤ op ∧ op ≤ 0x0F) ∨ (0x14 ≤ op ∧ op ≤ 0x1F) ∨ (0x23 ≤ op ∧ op ≤ 0x2F) ∨ (0x3B ≤ op ∧ op ≤ 0x3F)
    ∨ (0x42 ≤ op ∧ op ≤ 0xFF)

/-! ## The columns mask and match of the command map -/

/-- The column `mask` of 30_encoding.md R113. -/
def tableMask : Instr → Word
  | .tblWrite _ _ _ _ => 0xFF00FE00
  | .tblFill _ _ _ _ => 0xFFFFFE00
  | .tblRead _ _ => 0xFF00FFFF
  | .rxPush _ _ _ => 0xFFFFFF00
  | .frRead _ _ => 0xFFFF0000
  | .txBegin _ _ _ => 0xFF00FFFC
  | .wrBits _ _ => 0xFF00FFFF
  | .wrByte _ _ _ => 0xFFFFFF00
  | .wrShortBe _ _ => 0xFFFF0000
  | .wrShortLe _ _ => 0xFFFF0000
  | .nop _ | .seed _ | .close _ | .reset _ | .tblLock _ | .frPop _ | .txAbort _ | .bitMode _ | .byteMode _
  | .wrIntBe _ | .wrLongBe _ | .wrPlaceholder _ | .txSend _ | .txPop _ => 0xFFFFFFFF

/-- The column `match` of 30_encoding.md R113. -/
def tableMatch : Instr → Word
  | .nop _ => 0x00000000
  | .seed _ => 0x01000000
  | .close _ => 0x02000000
  | .reset _ => 0x03000000
  | .tblWrite _ _ _ _ => 0x10000000
  | .tblFill _ _ _ _ => 0x11000000
  | .tblLock _ => 0x12000000
  | .tblRead _ _ => 0x13000000
  | .rxPush _ _ _ => 0x20000000
  | .frRead _ _ => 0x21000000
  | .frPop _ => 0x22000000
  | .txBegin _ _ _ => 0x30000000
  | .txAbort _ => 0x31000000
  | .bitMode _ => 0x32000000
  | .byteMode _ => 0x33000000
  | .wrBits _ _ => 0x34000000
  | .wrByte _ _ _ => 0x35000000
  | .wrShortBe _ _ => 0x36000000
  | .wrShortLe _ _ => 0x37000000
  | .wrIntBe _ => 0x38000000
  | .wrLongBe _ => 0x39000000
  | .wrPlaceholder _ => 0x3A000000
  | .txSend _ => 0x40000000
  | .txPop _ => 0x41000000

/-- The range checks of 30_encoding.md R112 on a command word: a bit count outside 1..32, a mode of 3, a table entry
with VAR = 1 and LEN ≠ 0. -/
def fieldsInRange (i : Instr) (w : Word) : Prop :=
  match i with
  | .wrBits _ _ => 1 ≤ (w.extractLsb' 16 8).toNat ∧ (w.extractLsb' 16 8).toNat ≤ 32
  | .txBegin _ _ _ => w.extractLsb' 0 2 ≠ 3
  | .tblWrite _ _ _ _ | .tblFill _ _ _ _ => ¬ (w.extractLsb' 8 1 = 1 ∧ w.extractLsb' 0 8 ≠ 0)
  | .nop _ | .seed _ | .close _ | .reset _ | .tblLock _ | .tblRead _ _ | .rxPush _ _ _ | .frRead _ _ | .frPop _
  | .txAbort _ | .bitMode _ | .byteMode _ | .wrByte _ _ _ | .wrShortBe _ _ | .wrShortLe _ _ | .wrIntBe _
  | .wrLongBe _ | .wrPlaceholder _ | .txSend _ | .txPop _ => True

/-! ## Causes of failure -/

/-- The bytes a byte write or a placeholder appends (43_framer.md R270 to R280). -/
def appendedBytes : Instr → Option Nat
  | .wrByte _ _ _ => some 1
  | .wrShortBe _ _ => some 2
  | .wrShortLe _ _ => some 2
  | .wrIntBe _ => some 4
  | .wrLongBe _ => some 8
  | .wrPlaceholder _ => some 1
  | .nop _ | .seed _ | .close _ | .reset _ | .tblWrite _ _ _ _ | .tblFill _ _ _ _ | .tblLock _ | .tblRead _ _
  | .rxPush _ _ _ | .frRead _ _ | .frPop _ | .txBegin _ _ _ | .txAbort _ | .bitMode _ | .byteMode _ | .wrBits _ _
  | .txSend _ | .txPop _ => none

/-- The inbound byte `b` would complete a frame (42_deframer.md R220): it is the opcode byte of a fixed frame of
length 0, a length byte of 0, or the last payload byte. -/
def completesFrame (ks : Session) (b : Byte) (s : State) : Prop :=
  match s.dfPhase with
  | .opc =>
    (s.table.get (b - (ksNext ks.dec).2.setWidth 8)).var = false
      ∧ (s.table.get (b - (ksNext ks.dec).2.setWidth 8)).len = 0
  | .len => b = 0
  | .pay => s.dfCnt.toNat + 1 = s.dfLen.toNat

/-- The number of prefix bytes of a framing mode (44_transmit.md R304). -/
def TxMode.prefixBytes : TxMode → Nat
  | .fixed => 0
  | .varByte => 1
  | .varShort => 2

/-- The column `cause` of 60_exceptions.md R340 for a command with a known OP, each cause by itself. -/
def causeHolds (i : Instr) (s : State) : ErrorCode → Prop
  | .illegal => False
  | .badArg => i.wellFormed = false
  | .noSession => i.opCode ∈ [0x20#8, 0x40#8] ∧ s.session = none
  | .sessionExists => i.opCode = 0x01 ∧ s.session ≠ none
  | .tableLocked => i.opCode ∈ [0x10#8, 0x11#8] ∧ s.tblLock = true
  | .tableUnlocked => i.opCode = 0x01 ∧ s.tblLock = false
  | .tableIncomplete => i.opCode = 0x12 ∧ s.tblLock = false ∧ ∃ k, (s.table.get k).valid = false
  | .notOpen =>
    i.opCode ∈ [0x31#8, 0x32#8, 0x33#8, 0x34#8, 0x35#8, 0x36#8, 0x37#8, 0x38#8, 0x39#8, 0x3A#8, 0x40#8]
      ∧ s.txOpen = false
  | .alreadyOpen => i.opCode = 0x30 ∧ s.txOpen = true
  | .mode =>
    (i.opCode ∈ [0x33#8, 0x34#8] ∧ s.txBitMode = false)
      ∨ (i.opCode ∈ [0x32#8, 0x35#8, 0x36#8, 0x37#8, 0x38#8, 0x39#8, 0x3A#8, 0x40#8] ∧ s.txBitMode = true)
  | .empty => (i.opCode ∈ [0x21#8, 0x22#8] ∧ s.frq = []) ∨ (i.opCode = 0x41 ∧ s.txq = [])
  | .range => ∃ r x f rest, i = .frRead r x ∧ s.frq = f :: rest ∧ f.len.toNat ≤ x.toNat
  | .overflow =>
    (∃ n r, i = .wrBits n r ∧ 8 * s.cfg.txCap < s.txBitPos.toNat + n.toNat)
      ∨ (∃ k, appendedBytes i = some k ∧ s.cfg.txCap < s.txBytePos.toNat + k)
  | .phLimit => i.opCode = 0x3A ∧ s.ph.length = s.cfg.maxPh
  | .len =>
    i.opCode = 0x40 ∧ ((s.txMode = .varByte ∧ 255 < s.txBytePos.toNat)
      ∨ ∃ p ∈ s.ph, 255 < s.txBytePos.toNat - p.toNat - 1)
  | .txFull =>
    i.opCode = 0x40 ∧ s.cfg.txfBytes < s.txq.length + 1 + s.txMode.prefixBytes + s.txBytePos.toNat
  | .rxFull =>
    ∃ ra rb b ks, i = .rxPush ra rb b ∧ s.session = some ks ∧ s.frq.length = s.cfg.frDepth ∧ completesFrame ks b s

/-! ## Invariants -/

/-- What holds in every state of a run of the block: the ranges 10_state.md gives its state elements, the canonical
form of its memories, and what 40_session_keystream.md R160 and 42_deframer.md R221 derive. -/
structure State.Inv (s : State) : Prop where
  /-- 00_scope.md R8. -/
  cfg_legal : s.cfg.Legal
  /-- SEED requires TBL_LOCK = 1, and only reset clears it (40_session_keystream.md R160, 10_state.md R35). -/
  session_locked : s.session ≠ none → s.tblLock = true
  /-- TBL_LOCK requires every entry valid (41_size_table.md R204, 42_deframer.md R221). -/
  locked_valid : s.tblLock = true → ∀ i, (s.table.get i).valid = true
  /-- A variable entry has LEN = 0 (10_state.md R34). -/
  variable_len : ∀ i, (s.table.get i).var = true → (s.table.get i).len = 0
  /-- Without a session the deframer is in OPC, FRQ and TXQ are empty (40_session_keystream.md R160, R165). -/
  no_session : s.session = none → s.dfPhase = .opc ∧ s.frq = [] ∧ s.txq = []
  /-- 42_deframer.md R220: phase OPC holds no frame in progress. -/
  phase_opc : s.dfPhase = .opc → s.dfOpc = 0 ∧ s.dfLen = 0 ∧ s.dfCnt = 0
  /-- 42_deframer.md R220: phase LEN has no length yet. -/
  phase_len : s.dfPhase = .len → s.dfLen = 0 ∧ s.dfCnt = 0
  /-- DF_CNT is 0..DF_LEN−1 in phase PAY (10_state.md R36). -/
  phase_pay : s.dfPhase = .pay → s.dfCnt.toNat < s.dfLen.toNat
  /-- DF_BUF is in canonical form and has 255 bytes (10_state.md R36, 42_deframer.md R228). -/
  dfBuf_wf : s.dfBuf.wf = true
  dfBuf_bound : ∀ c ∈ s.dfBuf, c.1 < 255
  /-- FRQ holds at most FR_DEPTH frames, each with `len` payload bytes (10_state.md R37). -/
  frq_depth : s.frq.length ≤ s.cfg.frDepth
  frq_len : ∀ f ∈ s.frq, f.payload.length = f.len.toNat
  /-- A closed builder's fields are zero (43_framer.md R252, 44_transmit.md R300). -/
  closed : s.txOpen = false →
    s.txOpcode = 0 ∧ s.txMode = .fixed ∧ s.txBitMode = false ∧ s.txBytePos = 0 ∧ s.txBitPos = 0 ∧ s.ph = []
  /-- TX_BYTEPOS is 0..TX_CAP and TX_BITPOS 0..8·TX_CAP (10_state.md R38). -/
  bytePos_bound : s.txBytePos.toNat ≤ s.cfg.txCap
  bitPos_bound : s.txBitPos.toNat ≤ 8 * s.cfg.txCap
  /-- In bit mode the bit cursor has not gone back behind the byte cursor (43_framer.md R256). -/
  bitMode_pos : s.txBitMode = true → 8 * s.txBytePos.toNat ≤ s.txBitPos.toNat
  /-- TX_BUF is in canonical form and has TX_CAP bytes (10_state.md R38). -/
  txBuf_wf : s.txBuf.wf = true
  txBuf_bound : ∀ c ∈ s.txBuf, c.1 < s.cfg.txCap
  /-- PH holds at most MAX_PH positions, each of a byte already written (10_state.md R39). -/
  ph_bound : s.ph.length ≤ s.cfg.maxPh
  ph_written : ∀ p ∈ s.ph, p.toNat < s.txBytePos.toNat
  /-- TXQ holds at most TXF_BYTES entries (10_state.md R40). -/
  txq_bound : s.txq.length ≤ s.cfg.txfBytes
  /-- RESULT[31:16] is 0 (10_state.md R44). -/
  result_high : s.result.extractLsb' 16 16 = 0
  /-- ERRLOG has only bits 1..17 (10_state.md R47). -/
  errLog_bits : s.errLog &&& ~~~(0x3FFFE#32) = 0
  /-- IRQ_EN has only bits 0..2 (10_state.md R48). -/
  irqEn_bits : s.irqEn &&& ~~~(7#32) = 0
  /-- While RST is asserted every state element is at its reset value (70_reset_and_hazards.md R380); for VAR, LEN,
  DF_BUF and TX_BUF, which have none, and for the form of RST and what a reset keeps, log entries 6, 9 and 11. -/
  rst_holds : s.rst = true → hardReset s = s

/-- Every bit of TX_BUF at or after the builder's cursor is 0 while a builder is open (20_memory.md R85, 43_framer.md
R250). -/
def State.UnwrittenZero (s : State) : Prop :=
  s.txOpen = true →
    ∀ p, (if s.txBitMode = true then s.txBitPos.toNat else 8 * s.txBytePos.toNat) ≤ p → s.txBuf.readBit p = false

/-- A safe run of `n` steps: it reaches a state in which the invariant holds. The block has no fault and, every
command having its meaning, no refusal. -/
def SafeRun (n : Nat) (s : State) : Prop := ∃ t, Host.Core.run Sys2Proof.core n s = .next t ∧ State.Inv t

/-! ## The functional reading of the deframer -/

/-- `Deframe(k, s)` (42_deframer.md R227), `fuel` at least the number of bytes: the frames, the keystream and the
phase in which the last byte leaves the deframer. -/
def deframe (table : Array256 TableEntry) : Nat → KsState → List Byte → List Frame × KsState × Phase
  | 0, k, _ => ([], k, .opc)
  | _ + 1, k, [] => ([], k, .opc)
  | fuel + 1, k, r :: rest =>
    let k' := (ksNext k).1
    let opc := r - (ksNext k).2.setWidth 8
    let e := table.get opc
    if e.var = false then
      if e.len.toNat ≤ rest.length then
        let out := deframe table fuel k' (rest.drop e.len.toNat)
        (⟨opc, e.len, rest.take e.len.toNat⟩ :: out.1, out.2)
      else ([], k', .pay)
    else
      match rest with
      | [] => ([], k', .len)
      | n :: more =>
        if n.toNat ≤ more.length then
          let out := deframe table fuel k' (more.drop n.toNat)
          (⟨opc, n, more.take n.toNat⟩ :: out.1, out.2)
        else ([], k', .pay)

/-- The bytes pushed one RX_PUSH each, in order (30_encoding.md R117 RXBYTES). -/
def rxPushAll : List Byte → State → Host.Outcome State Fault Refusal
  | [], s => .next s
  | b :: bs, s =>
    match exec (.rxPush 0 0 b) s with
    | .next t => rxPushAll bs t
    | .fault r => .fault r
    | .refused r => .refused r

/-- TX_POP `n` times, with the RVAL of each, in order (44_transmit.md R310). -/
def txPopAll : Nat → State → List Word × State
  | 0, s => ([], s)
  | n + 1, s =>
    match exec (.txPop 0) s with
    | .next t => (t.rval :: (txPopAll n t).1, (txPopAll n t).2)
    | .fault _ => ([], s)
    | .refused _ => ([], s)

/-! ## The byte writes -/

/-- What a byte write of OP `op` does with the bytes `bs`, its arguments being good (43_framer.md R254, R268): it fails
with NOT_OPEN, MODE or OVERFLOW, in this order, writing nothing, or it puts all of `bs` at the byte cursor and
changes nothing else. -/
def AppendsBytes (i : Instr) (op : Byte) (bs : List Byte) (s : State) : Prop :=
  (s.txOpen = false → exec i s = failsWith op 0x08 s)
  ∧ (s.txOpen = true → s.txBitMode = true → exec i s = failsWith op 0x0A s)
  ∧ (s.txOpen = true → s.txBitMode = false → s.cfg.txCap < s.txBytePos.toNat + bs.length →
      exec i s = failsWith op 0x0D s)
  ∧ (s.txOpen = true → s.txBitMode = false → s.txBytePos.toNat + bs.length ≤ s.cfg.txCap →
      ∃ t, exec i s = .next t
        ∧ (∀ j (h : j < bs.length), t.txBuf.read (s.txBytePos.toNat + j) = bs[j])
        ∧ (∀ a, a < s.txBytePos.toNat ∨ s.txBytePos.toNat + bs.length ≤ a → t.txBuf.read a = s.txBuf.read a)
        ∧ t.txBytePos.toNat = s.txBytePos.toNat + bs.length
        ∧ t = { s with
            txBuf := t.txBuf, txBytePos := t.txBytePos, result := 0#16 ++ op ++ 0#8, rval := 0 })

end Sys2Proof.Machine
end

