-- ==== Sys2Proof/Certificates/Slice0/Obligations.lean ====
section
/-! DEFINITION. The statements about the model, for the provers. -/

open Sys2Proof Sys2Proof.Machine

/-! ## Encoding -/

/-- Every command, whatever its operand and reserved fields hold, is decoded from its own word (30_encoding.md
sections 1 and 2). -/
def Obligations.DecodeOfEncode : Prop :=
  ∀ i : Instr, decode (encode i) = .ok i

/-- A word that decodes to a command is that command's word: the decoder drops no bit (30_encoding.md sections 1
and 2). -/
def Obligations.EncodeOfDecode : Prop :=
  ∀ (w : Word) (i : Instr), decode w = .ok i → encode i = w

/-- 30_encoding.md R115: one of the 24 commands with its fields, or ILLEGAL. -/
def Obligations.EveryWordIsCommandOrIllegal : Prop :=
  ∀ w : Word,
    (IllegalOp (w.extractLsb' 24 8).toNat → decode w = .error (.illegal (w.extractLsb' 24 8)))
    ∧ (¬ IllegalOp (w.extractLsb' 24 8).toNat →
        ∃ i, decode w = .ok i ∧ i.opCode = w.extractLsb' 24 8 ∧ i.operands = w.extractLsb' 0 24)

/-- The argument check of a decoded word is its row's mask and match with the range checks on top (30_encoding.md
section 2). -/
def Obligations.ArgumentCheckIsTableRow : Prop :=
  ∀ (w : Word) (i : Instr), decode w = .ok i →
    (i.wellFormed = true ↔ (w &&& tableMask i = tableMatch i ∧ fieldsInRange i w))

/-- Words written out from the encodings of 30_encoding.md section 3. -/
def Obligations.SampleWordsDecode : Prop :=
  decode 0x30510002 = .ok (.txBegin 0x51 0 2) ∧ decode 0x200000AD = .ok (.rxPush 0 0 0xAD)
    ∧ decode 0x10B90100 = .ok (.tblWrite 0xB9 0 1 0) ∧ decode 0x01000000 = .ok (.seed 0)
    ∧ decode 0x34070000 = .ok (.wrBits 7 0) ∧ decode 0x41000000 = .ok (.txPop 0)
    ∧ decode 0x05000000 = .error (.illegal 0x05)

/-! ## Commands at the port -/

/-- A CMD write of a word that decodes to `i` is `exec i`, the write answered and taken from the port (10_state.md
R43). -/
def Obligations.StepRunsDecodedCommand : Prop :=
  ∀ (s : State) (w : Word) (i : Instr), decode w = .ok i →
    step (atPort (.write 4 (s.cfg.kfbBase + 0x08) w) s) = exec i (answered .written s)

/-- A CMD write of a word with an illegal OP fails with ILLEGAL and does nothing else (30_encoding.md section 2). -/
def Obligations.IllegalCommandFails : Prop :=
  ∀ (s : State) (w : Word), IllegalOp (w.extractLsb' 24 8).toNat →
    step (atPort (.write 4 (s.cfg.kfbBase + 0x08) w) s)
      = failsWith (w.extractLsb' 24 8) 0x01 (answered .written s)

/-- No step ends in a fault or a refusal (60_exceptions.md section 2, 70_reset_and_hazards.md section 4). That no access
at all does is the model's reading: log entry 13, with 8 for bus errors and 9 for accesses while RST is asserted. -/
def Obligations.EveryStepCompletes : Prop :=
  ∀ s : State, ∃ t, step s = .next t

/-! ## Rules over all commands -/

/-- 30_encoding.md R112: a reserved field that is not zero or a field out of range is BADARG, before any other
check. -/
def Obligations.BadArgumentFails : Prop :=
  ∀ (i : Instr) (s : State), i.wellFormed = false → exec i s = failsWith i.opCode 0x02 s

/-- 60_exceptions.md R341: a command that reports a code other than OK has changed only RESULT, RVAL and ERRLOG. -/
def Obligations.FailureHasNoOtherEffect : Prop :=
  ∀ (i : Instr) (s t : State), exec i s = .next t → t.code ≠ 0 →
    exec i s = failsWith i.opCode t.code s ∧ t.rval = 0
      ∧ { t with result := s.result, rval := s.rval, errLog := s.errLog } = s

/-- RESULT, RVAL and ERRLOG after every command (60_exceptions.md section 1). -/
def Obligations.EveryCommandWritesResult : Prop :=
  ∀ (i : Instr) (s : State), ∃ t, exec i s = .next t ∧ t.op = i.opCode ∧ t.result.extractLsb' 16 16 = 0
    ∧ (t.code = 0 ∨ (1 ≤ t.code.toNat ∧ t.code.toNat ≤ 17))
    ∧ (t.code ≠ 0 → t.rval = 0 ∧ t.errLog = s.errLog ||| (1#32 <<< t.code.toNat))
    ∧ (t.code = 0 → i.opCode ≠ 0x03 → t.errLog = s.errLog)

/-- 60_exceptions.md R343: the failure condition with the lowest code is reported, OK when none holds. -/
def Obligations.LowestCodeIsReported : Prop :=
  ∀ (i : Instr) (s t : State), exec i s = .next t →
    (∀ e : ErrorCode, t.code = e.code ↔ (causeHolds i s e ∧ ∀ f, causeHolds i s f → e.code ≤ f.code))
    ∧ (t.code = 0 ↔ ∀ e, ¬ causeHolds i s e)

/-- 20_memory.md R92: KS_DEC advances once per opcode byte consumed, KS_ENC once per successful TX_SEND, and no other
command, failed command or register read advances either. A write that is no command (an illegal OP, another
register, a bus error) advances neither. -/
def Obligations.KeystreamsAdvanceOnlyAsStated : Prop :=
  (∀ (i : Instr) (s t : State) (ks : Session), s.session = some ks → exec i s = .next t → t.session ≠ none →
    t.session = some
      ⟨if i.opCode = 0x20 ∧ s.dfPhase = .opc ∧ t.code = 0 then (ksNext ks.dec).1 else ks.dec,
        if i.opCode = 0x40 ∧ t.code = 0 then (ksNext ks.enc).1 else ks.enc⟩)
  ∧ (∀ (s : State) (width addr : Nat), ∃ t, step (atPort (.read width addr) s) = .next t ∧ t.session = s.session)
  ∧ (∀ (s : State) (width addr : Nat) (v : Word),
      ¬ (width = 4 ∧ addr = s.cfg.kfbBase + 0x08 ∧ ∃ i, decode v = .ok i) →
      ∃ t, step (atPort (.write width addr v) s) = .next t ∧ t.session = s.session)

/-- 10_state.md R32, for commands: SESSION is set only by SEED and cleared only by CLOSE and RESET. -/
def Obligations.SessionChangesOnlyBySeedCloseReset : Prop :=
  State.reset.session = none
  ∧ ∀ (i : Instr) (s t : State), exec i s = .next t →
      (s.session = none → t.session ≠ none → i.opCode = 0x01 ∧ t.code = 0)
      ∧ (s.session ≠ none → t.session = none → (i.opCode = 0x02 ∨ i.opCode = 0x03) ∧ t.code = 0)

/-- 10_state.md R35: TBL_LOCK freezes the table, is set only by TBL_LOCK and cleared only by reset. -/
def Obligations.LockFreezesTable : Prop :=
  State.reset.tblLock = false
  ∧ (∀ (i : Instr) (s : State), s.tblLock = true → i.wellFormed = true → i.opCode = 0x10 ∨ i.opCode = 0x11 →
      exec i s = failsWith i.opCode 0x05 s)
  ∧ ∀ (i : Instr) (s t : State), exec i s = .next t →
      (s.tblLock = true → i.opCode ≠ 0x03 → t.tblLock = true ∧ t.table = s.table)
      ∧ (s.tblLock = false → t.tblLock = true → i.opCode = 0x12)

/-! ## Invariants -/

/-- The state after reset meets `State.Inv` and `State.UnwrittenZero` (in an open builder every bit of TX_BUF at or after
the cursor is 0). The values the spec leaves unspecified there are the model's choice (log entry 6); so are the canonical
form of the memories inside `State.Inv` (log entry 7) and that the state holds the parameters, at their defaults (log
entry 2). -/
def Obligations.InvariantAtReset : Prop :=
  State.reset.Inv ∧ State.reset.UnwrittenZero

/-- Every step keeps the ranges, queue bounds, canonical memories and register masks of `State.Inv`, and the reset values
while RST is asserted (70_reset_and_hazards.md section 1). The canonical form is the model's choice (log entry 7); so are
the zeros of VAR, LEN, DF_BUF and TX_BUF while RST is asserted (log entry 6), the form of RST (log entry 9) and what a
reset keeps (log entry 11). -/
def Obligations.InvariantKeptByEveryStep : Prop :=
  ∀ s t : State, s.Inv → step s = .next t → t.Inv

/-- Every step keeps the unwritten rest of an open builder's TX_BUF zero (20_memory.md section 2). -/
def Obligations.UnwrittenBitsStayZero : Prop :=
  ∀ s t : State, s.Inv → s.UnwrittenZero → step s = .next t → t.UnwrittenZero

/-! ## Control and session commands -/

/-- 45_control.md R330. -/
def Obligations.NopRule : Prop :=
  ∀ (r : BitVec 24) (s : State),
    (r ≠ 0 → exec (.nop r) s = failsWith 0x00 0x02 s) ∧ (r = 0 → exec (.nop r) s = endsOk 0x00 0 s)
    ∧ encode (.nop r) = 0x00#8 ++ r

/-- RESET (45_control.md): every state element for which 10_state.md gives a reset value takes it, then RESULT holds OP
0x03. That the parameters, the waiting events, the last response and the level of RST stay is the model's choice (log
entry 11). -/
def Obligations.ResetRule : Prop :=
  (∀ r : BitVec 24, encode (.reset r) = 0x03#8 ++ r)
  ∧ (∀ (r : BitVec 24) (s : State), r ≠ 0 → exec (.reset r) s = failsWith 0x03 0x02 s)
  ∧ ∀ s : State, ∃ t, exec (.reset 0) s = .next t
      ∧ t.HasResetValues ∧ t.result = 0x00000300 ∧ irqLine t = false ∧ readOffset 0x04 t = 0
      ∧ t.cfg = s.cfg ∧ t.port = s.port ∧ t.resp = s.resp ∧ t.rst = s.rst

/-- 40_session_keystream.md R160. -/
def Obligations.SeedRule : Prop :=
  ∀ (r : BitVec 24) (s : State),
    (r ≠ 0 → exec (.seed r) s = failsWith 0x01 0x02 s)
    ∧ (r = 0 → s.session ≠ none → exec (.seed r) s = failsWith 0x01 0x04 s)
    ∧ (r = 0 → s.session = none → s.tblLock = false → exec (.seed r) s = failsWith 0x01 0x06 s)
    ∧ (r = 0 → s.session = none → s.tblLock = true →
        exec (.seed r) s = endsOk 0x01 0
          { s with
            session := some
              ⟨ksSeed s.cfg.ksImpl ⟨s.data0, s.data1, s.data2, s.data3⟩,
                ksSeed s.cfg.ksImpl ⟨s.data0 + 50, s.data1 + 50, s.data2 + 50, s.data3 + 50⟩⟩ })
    ∧ encode (.seed r) = 0x01#8 ++ r

/-- 40_session_keystream.md R165. -/
def Obligations.CloseRule : Prop :=
  ∀ (r : BitVec 24) (s : State),
    (r ≠ 0 → exec (.close r) s = failsWith 0x02 0x02 s)
    ∧ (r = 0 → exec (.close r) s = endsOk 0x02 0
        { s with
          session := none, dfPhase := .opc, dfOpc := 0, dfLen := 0, dfCnt := 0, frq := [], txOpen := false,
          txOpcode := 0, txMode := .fixed, txBitMode := false, txBytePos := 0, txBitPos := 0, ph := [], txq := [] })
    ∧ encode (.close r) = 0x02#8 ++ r

/-! ## Size table -/

/-- 41_size_table.md R200. -/
def Obligations.TblWriteRule : Prop :=
  ∀ (k : Byte) (rb : BitVec 7) (v : BitVec 1) (l : Byte) (s : State),
    (rb ≠ 0 ∨ (v = 1 ∧ l ≠ 0) → exec (.tblWrite k rb v l) s = failsWith 0x10 0x02 s)
    ∧ (rb = 0 → ¬ (v = 1 ∧ l ≠ 0) → s.tblLock = true → exec (.tblWrite k rb v l) s = failsWith 0x10 0x05 s)
    ∧ (rb = 0 → ¬ (v = 1 ∧ l ≠ 0) → s.tblLock = false →
        ∃ t, exec (.tblWrite k rb v l) s = .next t
          ∧ t.table.get k = ⟨true, decide (v = 1), l⟩ ∧ (∀ j, j ≠ k → t.table.get j = s.table.get j)
          ∧ t = { s with table := t.table, result := 0x00001000, rval := 0 })
    ∧ encode (.tblWrite k rb v l) = 0x10#8 ++ (k ++ rb ++ v ++ l)

/-- 41_size_table.md R202. -/
def Obligations.TblFillRule : Prop :=
  ∀ (ra : Byte) (rb : BitVec 7) (v : BitVec 1) (l : Byte) (s : State),
    (ra ≠ 0 ∨ rb ≠ 0 ∨ (v = 1 ∧ l ≠ 0) → exec (.tblFill ra rb v l) s = failsWith 0x11 0x02 s)
    ∧ (ra = 0 → rb = 0 → ¬ (v = 1 ∧ l ≠ 0) → s.tblLock = true →
        exec (.tblFill ra rb v l) s = failsWith 0x11 0x05 s)
    ∧ (ra = 0 → rb = 0 → ¬ (v = 1 ∧ l ≠ 0) → s.tblLock = false →
        ∃ t, exec (.tblFill ra rb v l) s = .next t ∧ (∀ j, t.table.get j = ⟨true, decide (v = 1), l⟩)
          ∧ t = { s with table := t.table, result := 0x00001100, rval := 0 })
    ∧ encode (.tblFill ra rb v l) = 0x11#8 ++ (ra ++ rb ++ v ++ l)

/-- 41_size_table.md R204. -/
def Obligations.TblLockRule : Prop :=
  ∀ (r : BitVec 24) (s : State),
    (r ≠ 0 → exec (.tblLock r) s = failsWith 0x12 0x02 s)
    ∧ (r = 0 → s.tblLock = false → (∃ k, (s.table.get k).valid = false) →
        exec (.tblLock r) s = failsWith 0x12 0x07 s)
    ∧ (r = 0 → s.tblLock = true ∨ (∀ k, (s.table.get k).valid = true) →
        exec (.tblLock r) s = endsOk 0x12 0 { s with tblLock := true })
    ∧ encode (.tblLock r) = 0x12#8 ++ r

/-- 41_size_table.md R206. -/
def Obligations.TblReadRule : Prop :=
  ∀ (k : Byte) (rb : Half) (s : State),
    (rb ≠ 0 → exec (.tblRead k rb) s = failsWith 0x13 0x02 s)
    ∧ (rb = 0 → (s.table.get k).valid = true →
        exec (.tblRead k rb) s
          = endsOk 0x13 (0#22 ++ 1#1 ++ BitVec.ofBool (s.table.get k).var ++ (s.table.get k).len) s)
    ∧ (rb = 0 → (s.table.get k).valid = false → exec (.tblRead k rb) s = endsOk 0x13 0 s)
    ∧ encode (.tblRead k rb) = 0x13#8 ++ (k ++ rb)

/-! ## Deframer -/

/-- 42_deframer.md R220, phase by phase. -/
def Obligations.RxPushRule : Prop :=
  (∀ ra rb b : Byte, encode (.rxPush ra rb b) = 0x20#8 ++ (ra ++ rb ++ b))
  ∧ (∀ (ra rb b : Byte) (s : State), ra ≠ 0 ∨ rb ≠ 0 → exec (.rxPush ra rb b) s = failsWith 0x20 0x02 s)
  ∧ (∀ (b : Byte) (s : State), s.session = none → exec (.rxPush 0 0 b) s = failsWith 0x20 0x03 s)
  ∧ (∀ (b : Byte) (s : State) (ks : Session) (opc : Byte) (e : TableEntry),
      s.session = some ks → s.dfPhase = .opc → opc = b - (ksNext ks.dec).2.setWidth 8 → e = s.table.get opc →
        (e.var = false → e.len = 0 → s.frq.length = s.cfg.frDepth →
          exec (.rxPush 0 0 b) s = failsWith 0x20 0x11 s)
        ∧ (e.var = false → e.len = 0 → s.frq.length ≠ s.cfg.frDepth →
          exec (.rxPush 0 0 b) s = endsOk 0x20 (0#16 ++ opc ++ 3#8)
            { s with session := some ⟨(ksNext ks.dec).1, ks.enc⟩, frq := s.frq ++ [⟨opc, 0, []⟩] })
        ∧ (e.var = true →
          exec (.rxPush 0 0 b) s = endsOk 0x20 (0#16 ++ opc ++ 2#8)
            { s with session := some ⟨(ksNext ks.dec).1, ks.enc⟩, dfOpc := opc, dfPhase := .len })
        ∧ (e.var = false → e.len ≠ 0 →
          exec (.rxPush 0 0 b) s = endsOk 0x20 (0#16 ++ opc ++ 2#8)
            { s with
              session := some ⟨(ksNext ks.dec).1, ks.enc⟩, dfOpc := opc, dfLen := e.len, dfCnt := 0,
              dfPhase := .pay }))
  ∧ (∀ (b : Byte) (s : State), s.session ≠ none → s.dfPhase = .len →
      (b = 0 → s.frq.length = s.cfg.frDepth → exec (.rxPush 0 0 b) s = failsWith 0x20 0x11 s)
      ∧ (b = 0 → s.frq.length ≠ s.cfg.frDepth →
        exec (.rxPush 0 0 b) s = endsOk 0x20 1
          { s with frq := s.frq ++ [⟨s.dfOpc, 0, []⟩], dfPhase := .opc, dfOpc := 0 })
      ∧ (b ≠ 0 → exec (.rxPush 0 0 b) s = endsOk 0x20 0 { s with dfLen := b, dfCnt := 0, dfPhase := .pay }))
  ∧ (∀ (b : Byte) (s : State), s.session ≠ none → s.dfPhase = .pay → s.dfBuf.wf = true →
      (s.dfCnt.toNat + 1 = s.dfLen.toNat → s.frq.length = s.cfg.frDepth →
        exec (.rxPush 0 0 b) s = failsWith 0x20 0x11 s)
      ∧ (s.dfCnt.toNat + 1 = s.dfLen.toNat → s.frq.length ≠ s.cfg.frDepth →
        exec (.rxPush 0 0 b) s = endsOk 0x20 1
          { s with
            frq := s.frq ++ [⟨s.dfOpc, s.dfLen, (List.range s.dfCnt.toNat).map s.dfBuf.read ++ [b]⟩]
            dfPhase := .opc, dfOpc := 0, dfLen := 0, dfCnt := 0 })
      ∧ (s.dfCnt.toNat + 1 ≠ s.dfLen.toNat →
        ∃ t, exec (.rxPush 0 0 b) s = .next t ∧ t.dfBuf.read s.dfCnt.toNat = b
          ∧ (∀ a, a ≠ s.dfCnt.toNat → t.dfBuf.read a = s.dfBuf.read a)
          ∧ t = { s with dfBuf := t.dfBuf, dfCnt := s.dfCnt + 1, result := 0x00002000, rval := 0 }))

/-- 42_deframer.md R223: the length byte is the payload length and no keystream masks it. -/
def Obligations.LengthByteIsNotMasked : Prop :=
  ∀ (b : Byte) (s t : State), s.session ≠ none → s.dfPhase = .len → exec (.rxPush 0 0 b) s = .next t →
    t.session = s.session ∧ (b ≠ 0 → t.dfLen = b ∧ t.dfPhase = .pay)
      ∧ (b = 0 → s.frq.length ≠ s.cfg.frDepth → t.frq = s.frq ++ [⟨s.dfOpc, 0, []⟩] ∧ t.dfPhase = .opc)

/-- 42_deframer.md R227: the deframer's commands compute its functional reading while FRQ has room. -/
def Obligations.DeframerComputesDeframe : Prop :=
  ∀ (bytes : List Byte) (s : State) (ks : Session),
    s.session = some ks → s.dfPhase = .opc → s.dfBuf.wf = true →
    s.frq.length + (deframe s.table bytes.length ks.dec bytes).1.length ≤ s.cfg.frDepth →
    ∃ t, rxPushAll bytes s = .next t
      ∧ t.frq = s.frq ++ (deframe s.table bytes.length ks.dec bytes).1
      ∧ t.session = some ⟨(deframe s.table bytes.length ks.dec bytes).2.1, ks.enc⟩
      ∧ t.dfPhase = (deframe s.table bytes.length ks.dec bytes).2.2
      ∧ t.table = s.table ∧ t.txq = s.txq ∧ t.txBuf = s.txBuf

/-- 42_deframer.md R230. -/
def Obligations.FrReadRule : Prop :=
  (∀ (ra : Byte) (x : Half), encode (.frRead ra x) = 0x21#8 ++ (ra ++ x))
  ∧ (∀ (ra : Byte) (x : Half) (s : State), ra ≠ 0 → exec (.frRead ra x) s = failsWith 0x21 0x02 s)
  ∧ (∀ (x : Half) (s : State), s.frq = [] → exec (.frRead 0 x) s = failsWith 0x21 0x0B s)
  ∧ ∀ (x : Half) (s : State) (f : Frame) (rest : List Frame), s.frq = f :: rest →
      (f.len.toNat ≤ x.toNat → exec (.frRead 0 x) s = failsWith 0x21 0x0C s)
      ∧ (∀ h : x.toNat < f.payload.length, x.toNat < f.len.toNat →
          exec (.frRead 0 x) s = endsOk 0x21 (f.payload[x.toNat].setWidth 32) s)

/-- 42_deframer.md R232. -/
def Obligations.FrPopRule : Prop :=
  (∀ r : BitVec 24, encode (.frPop r) = 0x22#8 ++ r)
  ∧ (∀ (r : BitVec 24) (s : State), r ≠ 0 → exec (.frPop r) s = failsWith 0x22 0x02 s)
  ∧ (∀ s : State, s.frq = [] → exec (.frPop 0) s = failsWith 0x22 0x0B s)
  ∧ ∀ (s : State) (f : Frame) (rest : List Frame), s.frq = f :: rest →
      exec (.frPop 0) s = endsOk 0x22 0 { s with frq := rest }

/-! ## Framer -/

/-- 43_framer.md R250. -/
def Obligations.TxBeginRule : Prop :=
  ∀ (o : Byte) (rb : BitVec 14) (m : BitVec 2) (s : State),
    (rb ≠ 0 ∨ m = 3 → exec (.txBegin o rb m) s = failsWith 0x30 0x02 s)
    ∧ (rb = 0 → m ≠ 3 → s.txOpen = true → exec (.txBegin o rb m) s = failsWith 0x30 0x09 s)
    ∧ (rb = 0 → m ≠ 3 → s.txOpen = false →
        ∃ t, exec (.txBegin o rb m) s = .next t ∧ t.txMode.bits = m ∧ (∀ a, t.txBuf.read a = 0)
          ∧ t = { s with
              txOpen := true, txOpcode := o, txMode := t.txMode, txBitMode := false, txBytePos := 0,
              txBitPos := 0, ph := [], txBuf := t.txBuf, result := 0x00003000, rval := 0 })
    ∧ encode (.txBegin o rb m) = 0x30#8 ++ (o ++ rb ++ m)

/-- 43_framer.md R252. -/
def Obligations.TxAbortRule : Prop :=
  ∀ (r : BitVec 24) (s : State),
    (r ≠ 0 → exec (.txAbort r) s = failsWith 0x31 0x02 s)
    ∧ (r = 0 → s.txOpen = false → exec (.txAbort r) s = failsWith 0x31 0x08 s)
    ∧ (r = 0 → s.txOpen = true → exec (.txAbort r) s = endsOk 0x31 0
        { s with
          txOpen := false, txOpcode := 0, txMode := .fixed, txBitMode := false, txBytePos := 0, txBitPos := 0,
          ph := [] })
    ∧ encode (.txAbort r) = 0x31#8 ++ r

/-- 43_framer.md R256. -/
def Obligations.BitModeRule : Prop :=
  ∀ (r : BitVec 24) (s : State),
    (r ≠ 0 → exec (.bitMode r) s = failsWith 0x32 0x02 s)
    ∧ (r = 0 → s.txOpen = false → exec (.bitMode r) s = failsWith 0x32 0x08 s)
    ∧ (r = 0 → s.txOpen = true → s.txBitMode = true → exec (.bitMode r) s = failsWith 0x32 0x0A s)
    ∧ (r = 0 → s.txOpen = true → s.txBitMode = false →
        ∃ t, exec (.bitMode r) s = .next t ∧ t.txBitPos.toNat = 8 * s.txBytePos.toNat
          ∧ t = { s with txBitPos := t.txBitPos, txBitMode := true, result := 0x00003200, rval := 0 })
    ∧ encode (.bitMode r) = 0x32#8 ++ r

/-- 43_framer.md R258, TX_BITPOS being in its range. -/
def Obligations.ByteModeRule : Prop :=
  ∀ (r : BitVec 24) (s : State),
    (r ≠ 0 → exec (.byteMode r) s = failsWith 0x33 0x02 s)
    ∧ (r = 0 → s.txOpen = false → exec (.byteMode r) s = failsWith 0x33 0x08 s)
    ∧ (r = 0 → s.txOpen = true → s.txBitMode = false → exec (.byteMode r) s = failsWith 0x33 0x0A s)
    ∧ (r = 0 → s.txOpen = true → s.txBitMode = true → s.cfg.Legal → s.txBitPos.toNat ≤ 8 * s.cfg.txCap →
        ∃ t, exec (.byteMode r) s = .next t ∧ t.txBytePos.toNat = (s.txBitPos.toNat + 7) / 8
          ∧ t.txBytePos.toNat ≤ s.cfg.txCap
          ∧ t = { s with txBytePos := t.txBytePos, txBitMode := false, result := 0x00003300, rval := 0 })
    ∧ encode (.byteMode r) = 0x33#8 ++ r

/-- 43_framer.md R260. -/
def Obligations.WrBitsRule : Prop :=
  ∀ (n : Byte) (rb : Half) (s : State), s.cfg.Legal → s.txBuf.wf = true →
    (rb ≠ 0 ∨ n = 0 ∨ 32 < n.toNat → exec (.wrBits n rb) s = failsWith 0x34 0x02 s)
    ∧ (rb = 0 → 1 ≤ n.toNat → n.toNat ≤ 32 → s.txOpen = false → exec (.wrBits n rb) s = failsWith 0x34 0x08 s)
    ∧ (rb = 0 → 1 ≤ n.toNat → n.toNat ≤ 32 → s.txOpen = true → s.txBitMode = false →
        exec (.wrBits n rb) s = failsWith 0x34 0x0A s)
    ∧ (rb = 0 → 1 ≤ n.toNat → n.toNat ≤ 32 → s.txOpen = true → s.txBitMode = true →
        8 * s.cfg.txCap < s.txBitPos.toNat + n.toNat → exec (.wrBits n rb) s = failsWith 0x34 0x0D s)
    ∧ (rb = 0 → 1 ≤ n.toNat → n.toNat ≤ 32 → s.txOpen = true → s.txBitMode = true →
        s.txBitPos.toNat + n.toNat ≤ 8 * s.cfg.txCap →
        ∃ t, exec (.wrBits n rb) s = .next t
          ∧ (∀ j, j < n.toNat → t.txBuf.readBit (s.txBitPos.toNat + j) = s.data0.getLsbD (n.toNat - 1 - j))
          ∧ (∀ p, p < s.txBitPos.toNat ∨ s.txBitPos.toNat + n.toNat ≤ p →
              t.txBuf.readBit p = s.txBuf.readBit p)
          ∧ (∀ a, 8 * a + 8 ≤ s.txBitPos.toNat ∨ s.txBitPos.toNat + n.toNat ≤ 8 * a →
              t.txBuf.read a = s.txBuf.read a)
          ∧ t.txBitPos.toNat = s.txBitPos.toNat + n.toNat
          ∧ t = { s with txBuf := t.txBuf, txBitPos := t.txBitPos, result := 0x00003400, rval := 0 })
    ∧ encode (.wrBits n rb) = 0x34#8 ++ (n ++ rb)

/-- 43_framer.md R266: reading back the n bits, most significant first, gives `v & mask[n]`. -/
def Obligations.BitWriterLaw : Prop :=
  ∀ (n : Byte) (s : State), s.cfg.Legal → s.txBuf.wf = true → s.txOpen = true → s.txBitMode = true →
    1 ≤ n.toNat → n.toNat ≤ 32 → s.txBitPos.toNat + n.toNat ≤ 8 * s.cfg.txCap →
    ∃ t, exec (.wrBits n 0) s = .next t ∧ t.txBitPos.toNat = s.txBitPos.toNat + n.toNat
      ∧ (List.range n.toNat).foldl (fun v j => 2 * v + (t.txBuf.readBit (s.txBitPos.toNat + j)).toNat) 0
          = s.data0.toNat % 2 ^ n.toNat
      ∧ (∀ p, p < s.txBitPos.toNat ∨ s.txBitPos.toNat + n.toNat ≤ p → t.txBuf.readBit p = s.txBuf.readBit p)

/-- 43_framer.md R270. -/
def Obligations.WrByteRule : Prop :=
  (∀ ra rb v : Byte, encode (.wrByte ra rb v) = 0x35#8 ++ (ra ++ rb ++ v))
  ∧ (∀ (ra rb v : Byte) (s : State), ra ≠ 0 ∨ rb ≠ 0 → exec (.wrByte ra rb v) s = failsWith 0x35 0x02 s)
  ∧ ∀ (v : Byte) (s : State), s.cfg.Legal → s.txBuf.wf = true → AppendsBytes (.wrByte 0 0 v) 0x35 [v] s

/-- 43_framer.md R272 and R274. -/
def Obligations.WrShortRules : Prop :=
  (∀ (ra : Byte) (v : Half),
    encode (.wrShortBe ra v) = 0x36#8 ++ (ra ++ v) ∧ encode (.wrShortLe ra v) = 0x37#8 ++ (ra ++ v))
  ∧ (∀ (ra : Byte) (v : Half) (s : State), ra ≠ 0 →
    exec (.wrShortBe ra v) s = failsWith 0x36 0x02 s ∧ exec (.wrShortLe ra v) s = failsWith 0x37 0x02 s)
  ∧ ∀ (hi lo : Byte) (s : State), s.cfg.Legal → s.txBuf.wf = true →
      AppendsBytes (.wrShortBe 0 (hi ++ lo)) 0x36 [hi, lo] s
      ∧ AppendsBytes (.wrShortLe 0 (hi ++ lo)) 0x37 [lo, hi] s

/-- 43_framer.md R276 and R278. -/
def Obligations.WrIntWrLongRules : Prop :=
  (∀ r : BitVec 24, encode (.wrIntBe r) = 0x38#8 ++ r ∧ encode (.wrLongBe r) = 0x39#8 ++ r)
  ∧ (∀ (r : BitVec 24) (s : State), r ≠ 0 →
    exec (.wrIntBe r) s = failsWith 0x38 0x02 s ∧ exec (.wrLongBe r) s = failsWith 0x39 0x02 s)
  ∧ ∀ (b7 b6 b5 b4 b3 b2 b1 b0 : Byte) (s : State), s.cfg.Legal → s.txBuf.wf = true →
      s.data1 = b7 ++ b6 ++ b5 ++ b4 → s.data0 = b3 ++ b2 ++ b1 ++ b0 →
      AppendsBytes (.wrIntBe 0) 0x38 [b3, b2, b1, b0] s
      ∧ AppendsBytes (.wrLongBe 0) 0x39 [b7, b6, b5, b4, b3, b2, b1, b0] s

/-- 43_framer.md R280. -/
def Obligations.WrPlaceholderRule : Prop :=
  ∀ (r : BitVec 24) (s : State), s.cfg.Legal → s.txBuf.wf = true →
    (r ≠ 0 → exec (.wrPlaceholder r) s = failsWith 0x3A 0x02 s)
    ∧ (r = 0 → s.txOpen = false → exec (.wrPlaceholder r) s = failsWith 0x3A 0x08 s)
    ∧ (r = 0 → s.txOpen = true → s.txBitMode = true → exec (.wrPlaceholder r) s = failsWith 0x3A 0x0A s)
    ∧ (r = 0 → s.txOpen = true → s.txBitMode = false → s.cfg.txCap < s.txBytePos.toNat + 1 →
        exec (.wrPlaceholder r) s = failsWith 0x3A 0x0D s)
    ∧ (r = 0 → s.txOpen = true → s.txBitMode = false → s.txBytePos.toNat + 1 ≤ s.cfg.txCap →
        s.ph.length = s.cfg.maxPh → exec (.wrPlaceholder r) s = failsWith 0x3A 0x0E s)
    ∧ (r = 0 → s.txOpen = true → s.txBitMode = false → s.txBytePos.toNat + 1 ≤ s.cfg.txCap →
        s.ph.length ≠ s.cfg.maxPh →
        ∃ t, exec (.wrPlaceholder r) s = .next t ∧ t.txBuf.read s.txBytePos.toNat = 0
          ∧ (∀ a, a ≠ s.txBytePos.toNat → t.txBuf.read a = s.txBuf.read a)
          ∧ t.txBytePos.toNat = s.txBytePos.toNat + 1
          ∧ t = { s with
              ph := s.ph ++ [s.txBytePos], txBuf := t.txBuf, txBytePos := t.txBytePos, result := 0x00003A00,
              rval := 0 })
    ∧ encode (.wrPlaceholder r) = 0x3A#8 ++ r

/-! ## Transmit -/

/-- 44_transmit.md R300. -/
def Obligations.TxSendRule : Prop :=
  (∀ r : BitVec 24, encode (.txSend r) = 0x40#8 ++ r)
  ∧ (∀ (r : BitVec 24) (s : State), r ≠ 0 → exec (.txSend r) s = failsWith 0x40 0x02 s)
  ∧ (∀ s : State, s.session = none → exec (.txSend 0) s = failsWith 0x40 0x03 s)
  ∧ (∀ s : State, s.session ≠ none → s.txOpen = false → exec (.txSend 0) s = failsWith 0x40 0x08 s)
  ∧ (∀ s : State, s.session ≠ none → s.txOpen = true → s.txBitMode = true →
      exec (.txSend 0) s = failsWith 0x40 0x0A s)
  ∧ (∀ s : State, s.session ≠ none → s.txOpen = true → s.txBitMode = false →
      (s.txMode = .varByte ∧ 255 < s.txBytePos.toNat) ∨ (∃ p ∈ s.ph, 255 < s.txBytePos.toNat - p.toNat - 1) →
      exec (.txSend 0) s = failsWith 0x40 0x0F s)
  ∧ (∀ s : State, s.session ≠ none → s.txOpen = true → s.txBitMode = false →
      ¬ (s.txMode = .varByte ∧ 255 < s.txBytePos.toNat) →
      (∀ p ∈ s.ph, s.txBytePos.toNat - p.toNat - 1 ≤ 255) →
      s.cfg.txfBytes < s.txq.length + 1 + s.txMode.prefixBytes + s.txBytePos.toNat →
      exec (.txSend 0) s = failsWith 0x40 0x10 s)
  ∧ (∀ (s : State) (ks : Session), s.session = some ks → s.txOpen = true → s.txBitMode = false →
      ¬ (s.txMode = .varByte ∧ 255 < s.txBytePos.toNat) →
      (∀ p ∈ s.ph, s.txBytePos.toNat - p.toNat - 1 ≤ 255) →
      s.txq.length + 1 + s.txMode.prefixBytes + s.txBytePos.toNat ≤ s.cfg.txfBytes →
      ∃ (framing payload : List Byte) (entries : List TxEntry),
        (s.txMode = .fixed → framing = [])
        ∧ (s.txMode = .varByte → framing = [s.txBytePos.extractLsb' 0 8])
        ∧ (s.txMode = .varShort → framing = [s.txBytePos.extractLsb' 8 8, s.txBytePos.extractLsb' 0 8])
        ∧ payload.length = s.txBytePos.toNat
        ∧ (∀ j (h : j < payload.length), payload[j] =
            if ∃ p ∈ s.ph, p.toNat = j then BitVec.ofNat 8 (256 - (s.txBytePos.toNat - j - 1))
            else s.txBuf.read j)
        ∧ entries.map TxEntry.byte
            = (s.txOpcode + (ksNext ks.enc).2.setWidth 8) :: (framing ++ payload)
        ∧ (∀ k (h : k < entries.length),
            entries[k].isStart = decide (k = 0) ∧ entries[k].isEnd = decide (k + 1 = entries.length))
        ∧ exec (.txSend 0) s = endsOk 0x40 (BitVec.ofNat 32 (1 + s.txMode.prefixBytes + s.txBytePos.toNat))
            { s with
              session := some ⟨ks.dec, (ksNext ks.enc).1⟩, txq := s.txq ++ entries, txOpen := false,
              txOpcode := 0, txMode := .fixed, txBitMode := false, txBytePos := 0, txBitPos := 0, ph := [] })

/-- A placeholder's queued byte and its count sum to 0 modulo 256, and TX_BUF keeps its bytes (44_transmit.md section
1, placeholder backfill). -/
def Obligations.PlaceholderBackfill : Prop :=
  ∀ (s t : State) (p : BitVec 16), exec (.txSend 0) s = .next t → t.code = 0 → p ∈ s.ph →
    p.toNat < s.txBytePos.toNat →
    (∀ a, t.txBuf.read a = s.txBuf.read a)
    ∧ ∃ e, t.txq[s.txq.length + 1 + s.txMode.prefixBytes + p.toNat]? = some e
        ∧ (e.byte.toNat + (s.txBytePos.toNat - p.toNat - 1)) % 256 = 0

/-- 44_transmit.md R306: the prefix of a message gives back the payload length. -/
def Obligations.FramingPrefixRoundTrip : Prop :=
  ∀ s t : State, exec (.txSend 0) s = .next t → t.code = 0 →
    (s.txMode = .varByte →
      ∃ e, t.txq[s.txq.length + 1]? = some e ∧ e.byte.toNat = s.txBytePos.toNat)
    ∧ (s.txMode = .varShort →
      ∃ hi lo, t.txq[s.txq.length + 1]? = some hi ∧ t.txq[s.txq.length + 2]? = some lo
        ∧ 256 * hi.byte.toNat + lo.byte.toNat = s.txBytePos.toNat)

/-- 44_transmit.md R310. -/
def Obligations.TxPopRule : Prop :=
  (∀ r : BitVec 24, encode (.txPop r) = 0x41#8 ++ r)
  ∧ (∀ (r : BitVec 24) (s : State), r ≠ 0 → exec (.txPop r) s = failsWith 0x41 0x02 s)
  ∧ (∀ s : State, s.txq = [] → exec (.txPop 0) s = failsWith 0x41 0x0B s)
  ∧ ∀ (s : State) (e : TxEntry) (rest : List TxEntry), s.txq = e :: rest →
      exec (.txPop 0) s = endsOk 0x41
        (0#22 ++ BitVec.ofBool e.isStart ++ BitVec.ofBool e.isEnd ++ e.byte) { s with txq := rest }

/-- TX_POP drains the queued bytes in the order they were queued, one per command, and ends on an empty TX FIFO
(44_transmit.md section 2). -/
def Obligations.TxPopDrainsInOrder : Prop :=
  ∀ (n : Nat) (s : State), n ≤ s.txq.length →
    (txPopAll n s).1.map (fun v => (v.extractLsb' 0 8, v.getLsbD 8, v.getLsbD 9))
        = (s.txq.take n).map (fun e => (e.byte, e.isEnd, e.isStart))
    ∧ (txPopAll n s).2.txq = s.txq.drop n
    ∧ (txPopAll n s).2.session = s.session ∧ (txPopAll n s).2.errLog = s.errLog

/-- TXDRAIN empties the TX FIFO and ends on the read of TX_LEVEL that answers 0 (30_encoding.md section 3, 44_transmit.md
section 2). Beside TXQ only RESULT, RVAL and the response of the port change. -/
def Obligations.TxDrainEmptiesFifo : Prop :=
  ∀ s : State, s.rst = false → s.txq.length < 2 ^ 24 →
    ∃ t, txDrain s.cfg.kfbBase s = .next t ∧ t.txq = [] ∧ t.resp = .readData 0
      ∧ { t with txq := s.txq, result := s.result, rval := s.rval, resp := s.resp } = s

/-! ## Registers, interrupts, the port -/

/-- With nothing at the port and RST deasserted a step changes nothing (10_state.md section 1). That such a step exists
is log entry 1. -/
def Obligations.NoAutonomousStep : Prop :=
  ∀ s : State, s.port = [] → s.rst = false → step s = .next s

/-- A legal read returns the register's value and changes nothing (20_memory.md section 4); RESULT, RVAL, DATA0 to
DATA3, ERRLOG and IRQ_EN read as what the block holds (10_state.md section 6). -/
def Obligations.ReadChangesNothing : Prop :=
  (∀ (s : State) (offset : Nat), offset % 4 = 0 → offset < 0x100 →
    step (atPort (.read 4 (s.cfg.kfbBase + offset)) s) = .next (answered (.readData (readOffset offset s)) s))
  ∧ ∀ s : State,
      readOffset 0x0C s = s.result ∧ readOffset 0x10 s = s.rval ∧ readOffset 0x14 s = s.data0
      ∧ readOffset 0x18 s = s.data1 ∧ readOffset 0x1C s = s.data2 ∧ readOffset 0x20 s = s.data3
      ∧ readOffset 0x24 s = s.errLog ∧ readOffset 0x28 s = s.irqEn

/-- 10_state.md R42. -/
def Obligations.StatusFields : Prop :=
  ∀ s : State,
    (readOffset 0x04 s).getLsbD 0 = s.session.isSome ∧ (readOffset 0x04 s).getLsbD 1 = s.tblLock
    ∧ (readOffset 0x04 s).getLsbD 2 = s.txOpen ∧ (readOffset 0x04 s).getLsbD 3 = s.txBitMode
    ∧ (readOffset 0x04 s).extractLsb' 4 2 = s.txMode.bits ∧ (readOffset 0x04 s).extractLsb' 6 2 = s.dfPhase.bits
    ∧ (readOffset 0x04 s).extractLsb' 8 8 = s.txOpcode
    ∧ (s.ph.length ≤ 15 → ((readOffset 0x04 s).extractLsb' 16 4).toNat = s.ph.length)
    ∧ (s.frq.length ≤ 255 → ((readOffset 0x04 s).extractLsb' 20 8).toNat = s.frq.length)
    ∧ (readOffset 0x04 s).extractLsb' 28 4 = 0 ∧ readOffset 0x04 State.reset = 0

/-- 10_state.md R50 to R54: the fields of the other computed registers. -/
def Obligations.ComputedRegisterFields : Prop :=
  ∀ s : State,
    (s.frq = [] → readOffset 0x30 s = 0)
    ∧ (∀ f rest, s.frq = f :: rest →
        (readOffset 0x30 s).getLsbD 31 = true ∧ (readOffset 0x30 s).extractLsb' 16 15 = 0
        ∧ (readOffset 0x30 s).extractLsb' 8 8 = f.len ∧ (readOffset 0x30 s).extractLsb' 0 8 = f.opc)
    ∧ (readOffset 0x34 s).extractLsb' 0 2 = s.dfPhase.bits ∧ (readOffset 0x34 s).extractLsb' 2 6 = 0
    ∧ (readOffset 0x34 s).extractLsb' 8 8 = s.dfOpc ∧ (readOffset 0x34 s).extractLsb' 16 8 = s.dfLen
    ∧ (readOffset 0x34 s).extractLsb' 24 8 = s.dfCnt
    ∧ (readOffset 0x38 s).toNat = s.txBytePos.toNat ∧ (readOffset 0x3C s).toNat = s.txBitPos.toNat
    ∧ (s.txq.length < 2 ^ 24 → (readOffset 0x40 s).toNat = s.txq.length)
    ∧ readOffset 0x30 State.reset = 0 ∧ readOffset 0x34 State.reset = 0 ∧ readOffset 0x38 State.reset = 0
    ∧ readOffset 0x3C State.reset = 0 ∧ readOffset 0x40 State.reset = 0

/-- 10_state.md R41, R43 and R55 for reads: the constant and empty offsets. -/
def Obligations.ConstantOffsetsRead : Prop :=
  ∀ s : State, readOffset 0x00 s = 0x54535031 ∧ readOffset 0x08 s = 0
    ∧ ∀ offset, 0x44 ≤ offset → offset % 4 = 0 → offset < 0x100 → readOffset offset s = 0

/-- 60_exceptions.md R351 over the causes of 10_state.md R49. -/
def Obligations.IrqLineRule : Prop :=
  (∀ s : State,
    ((readOffset 0x2C s).getLsbD 0 = true ↔ s.frq ≠ []) ∧ ((readOffset 0x2C s).getLsbD 1 = true ↔ s.txq ≠ [])
    ∧ ((readOffset 0x2C s).getLsbD 2 = true ↔ s.errLog ≠ 0) ∧ (readOffset 0x2C s).extractLsb' 3 29 = 0
    ∧ (irqLine s = true ↔ ∃ k, k < 3 ∧ s.irqEn.getLsbD k = true ∧ (readOffset 0x2C s).getLsbD k = true))
  ∧ readOffset 0x2C State.reset = 0 ∧ irqLine State.reset = false

/-- The model's choice for a routing the spec leaves OPEN (log entry 18, DESIGN CHOICE): a request stands on IRQ_ROUTE
exactly while the IRQ line is asserted, and no command changes the route. The spec gives the line and says that its
routing is the platform's (20_memory.md section 4, 60_exceptions.md section 3); 92_eei_decisions.md allows an
edge-triggered platform, which this is not. -/
def Obligations.IrqRequestFollowsRoute : Prop :=
  (∀ s : State, (irqLine s = true → irqRequest s = some s.cfg.irqRoute) ∧ (irqLine s = false → irqRequest s = none))
  ∧ ∀ (i : Instr) (s t : State), exec i s = .next t → t.cfg.irqRoute = s.cfg.irqRoute

/-- 10_state.md R45 and R47, R48: host writes to DATA0..3 store, to ERRLOG clear the bits written 1, to IRQ_EN store
three bits. -/
def Obligations.HostWritesToRegisters : Prop :=
  ∀ (s : State) (v : Word),
    step (atPort (.write 4 (s.cfg.kfbBase + 0x14) v) s) = .next (answered .written { s with data0 := v })
    ∧ step (atPort (.write 4 (s.cfg.kfbBase + 0x18) v) s) = .next (answered .written { s with data1 := v })
    ∧ step (atPort (.write 4 (s.cfg.kfbBase + 0x1C) v) s) = .next (answered .written { s with data2 := v })
    ∧ step (atPort (.write 4 (s.cfg.kfbBase + 0x20) v) s) = .next (answered .written { s with data3 := v })
    ∧ (∃ t, step (atPort (.write 4 (s.cfg.kfbBase + 0x24) v) s) = .next t
        ∧ (∀ k, t.errLog.getLsbD k = (s.errLog.getLsbD k && !v.getLsbD k))
        ∧ t = answered .written { s with errLog := t.errLog })
    ∧ (∃ t, step (atPort (.write 4 (s.cfg.kfbBase + 0x28) v) s) = .next t
        ∧ (∀ k, t.irqEn.getLsbD k = (decide (k < 3) && v.getLsbD k))
        ∧ t = answered .written { s with irqEn := t.irqEn })

/-- Writes to read-only registers and reserved offsets are ignored (20_memory.md section 4, 10_state.md section 6). -/
def Obligations.ReadOnlyOffsetsIgnoreWrites : Prop :=
  ∀ (s : State) (v : Word) (offset : Nat), offset % 4 = 0 → offset < 0x100 →
    offset ∉ [0x08, 0x14, 0x18, 0x1C, 0x20, 0x24, 0x28] →
    step (atPort (.write 4 (s.cfg.kfbBase + offset) v) s) = .next (answered .written s)

/-- An illegal access is a bus error and no state of the block changes (20_memory.md section 1). That the machine goes on
is log entry 8; that every offset at or above 0x100 is one, whatever the platform decodes there, is log entry 12. -/
def Obligations.BusErrorChangesNothing : Prop :=
  ∀ (s : State) (width offset : Nat) (v : Word), width ≠ 4 ∨ offset % 4 ≠ 0 ∨ 0x100 ≤ offset →
    step (atPort (.read width (s.cfg.kfbBase + offset)) s) = .next (answered .busError s)
    ∧ step (atPort (.write width (s.cfg.kfbBase + offset) v) s) = .next (answered .busError s)

/-- RST resets every element that 10_state.md gives a reset value; while it is asserted an access and an idle step change
nothing; when it is deasserted the next access takes effect at once (70_reset_and_hazards.md section 1, 60_exceptions.md
section 3). The form of the port is log entry 9; that the waiting events and the parameters stay is log entry 11. -/
def Obligations.RstResetsAndHolds : Prop :=
  (∀ (s : State) (rest : List PortEvent), s.port = .rst true :: rest →
    ∃ t, step s = .next t ∧ t.HasResetValues ∧ t.result = 0 ∧ t.rst = true ∧ t.port = rest ∧ t.cfg = s.cfg)
  ∧ (∀ s : State, s.rst = true → s.port = [] →
      ∃ t, step s = .next t ∧ t.HasResetValues ∧ t.result = 0 ∧ t.rst = true ∧ t.port = [] ∧ t.cfg = s.cfg
        ∧ (hardReset s = s → t = s))
  ∧ (∀ (s : State) (a : Access) (rest : List PortEvent), hardReset s = s → s.rst = true →
      s.port = .access a :: rest → step s = .next { s with port := rest, resp := .unspecified })
  ∧ (∀ (s : State) (rest : List PortEvent), s.port = .rst false :: rest →
      step s = .next { s with rst := false, port := rest })
  ∧ (∀ (s : State) (a : Access) (rest : List PortEvent), s.port = .rst false :: .access a :: rest →
      step s = .next (atPort a { s with port := rest }))

/-- 10_state.md R56, the elements it gives a value. -/
def Obligations.ResetValues : Prop :=
  State.reset.HasResetValues ∧ State.reset.result = 0 ∧ irqLine State.reset = false
  ∧ readOffset 0x00 State.reset = 0x54535031
  ∧ ∀ offset, offset ∈ [0x04, 0x2C, 0x30, 0x34, 0x38, 0x3C, 0x40] → readOffset offset State.reset = 0
end

