-- ==== Sys2Proof/Laws/Memory.lean ====
section
/-! SUPPORT. Laws of the arrays of 256 and of the byte memories TX_BUF and DF_BUF. -/
namespace Sys2Proof.Machine

/-! ## Arrays of 256 -/

theorem Array256.ext_rows {α : Type} {t u : Array256 α} (h : t.rows = u.rows) : t = u := by
  cases t; cases u; cases h; rfl

@[simp] theorem Array256.get_set_same {α : Type} (t : Array256 α) (i : Byte) (x : α) : (t.set i x).get i = x := by
  simp [Array256.get, Array256.set]

theorem Array256.get_set_other {α : Type} (t : Array256 α) {i j : Byte} (x : α) (h : j ≠ i) :
    (t.set i x).get j = t.get j := by
  have h' : i.toNat ≠ j.toNat := fun e => h (BitVec.eq_of_toNat_eq e.symm)
  simp [Array256.get, Array256.set, h']

@[simp] theorem Array256.get_fill {α : Type} (x : α) (i : Byte) : (Array256.fill x).get i = x := by
  simp only [Array256.get, Array256.fill, List.getElem_replicate]

theorem Array256.mem_rows_get {α : Type} (t : Array256 α) (i : Byte) : t.get i ∈ t.rows :=
  List.getElem_mem _

/-- Every row is some element. -/
theorem Array256.exists_get_of_mem {α : Type} {t : Array256 α} {x : α} (h : x ∈ t.rows) : ∃ i : Byte, t.get i = x := by
  obtain ⟨n, hn, rfl⟩ := List.getElem_of_mem h
  refine ⟨BitVec.ofNat 8 n, ?_⟩
  have hn' : n < 256 := t.size ▸ hn
  have e : (BitVec.ofNat 8 n).toNat = n := by simp [BitVec.toNat_ofNat]; omega
  simp [Array256.get, e]

theorem Array256.all_iff {α : Type} (t : Array256 α) (p : α → Bool) :
    t.all p = true ↔ ∀ i : Byte, p (t.get i) = true := by
  simp only [Array256.all, List.all_eq_true]
  constructor
  · exact fun h i => h _ (t.mem_rows_get i)
  · intro h x hx
    obtain ⟨i, rfl⟩ := Array256.exists_get_of_mem hx
    exact h i

/-- Every element of a table after a write is the new one or an old one. -/
theorem Array256.mem_rows_set {α : Type} {t : Array256 α} {i : Byte} {x y : α} (h : y ∈ (t.set i x).rows) :
    y = x ∨ y ∈ t.rows := by
  have := List.mem_or_eq_of_mem_set h
  tauto

theorem Array256.eq_of_mem_fill {α : Type} {x y : α} (h : y ∈ (Array256.fill x).rows) : y = x :=
  List.eq_of_mem_replicate h

/-! ## Canonical form -/

@[simp] theorem Memory.read_nil (a : Nat) : Memory.read [] a = 0 := rfl

@[simp] theorem Memory.wf_nil : Memory.wf [] = true := rfl

/-- The tail of a canonical memory is canonical. -/
theorem Memory.wf_tail {c : Host.Cell} {m : Memory} (h : Memory.wf (c :: m) = true) : Memory.wf m = true := by
  cases m with
  | nil => rfl
  | cons d m => simp only [Memory.wf, Bool.and_eq_true] at h; exact h.2

/-- A canonical memory lists no zero first. -/
theorem Memory.wf_head_ne {c : Host.Cell} {m : Memory} (h : Memory.wf (c :: m) = true) : c.2 ≠ 0 := by
  cases m <;> simp [Memory.wf] at h <;> simp_all

/-- A memory is canonical when its tail is, its head is not zero and its head lies below every listed address. -/
theorem Memory.wf_cons {c : Host.Cell} {m : Memory} (hm : Memory.wf m = true) (hc : c.2 ≠ 0)
    (hlt : ∀ d ∈ m, c.1 < d.1) : Memory.wf (c :: m) = true := by
  cases m with
  | nil => simpa [Memory.wf] using hc
  | cons d m => simpa [Memory.wf, hm, hlt d (by simp)] using hc

/-- In a canonical memory the head lies below every other listed address. -/
theorem Memory.wf_head_lt {c : Host.Cell} {m : Memory} (h : Memory.wf (c :: m) = true) : ∀ d ∈ m, c.1 < d.1 := by
  induction m generalizing c with
  | nil => simp
  | cons e m ih =>
    simp only [Memory.wf, Bool.and_eq_true, decide_eq_true_eq] at h
    intro d hd
    rcases List.mem_cons.mp hd with rfl | hd
    · exact h.1.2
    · exact h.1.2.trans (ih h.2 d hd)

/-- An address that no entry lists reads zero. -/
theorem Memory.read_eq_zero {m : Memory} {a : Nat} (h : ∀ c ∈ m, c.1 ≠ a) : m.read a = 0 := by
  induction m with
  | nil => rfl
  | cons c m ih => simp [Memory.read, h c (by simp), ih (fun d hd => h d (by simp [hd]))]

/-- Every address after a write was listed or is the one written. -/
theorem Memory.mem_write {m : Memory} {a : Nat} {b : Byte} {c : Host.Cell} (h : c ∈ m.write a b) :
    c ∈ m ∨ c.1 = a := by
  induction m with
  | nil =>
    simp only [Memory.write, Memory.cons] at h
    split at h <;> simp_all
  | cons d m ih =>
    simp only [Memory.write, Memory.cons] at h
    split at h
    · split at h
      · exact .inl h
      · rcases List.mem_cons.mp h with rfl | h
        · exact .inr rfl
        · exact .inl h
    · split at h
      · split at h
        · exact .inl (List.mem_cons_of_mem _ h)
        · rcases List.mem_cons.mp h with rfl | h
          · exact .inr rfl
          · exact .inl (List.mem_cons_of_mem _ h)
      · rcases List.mem_cons.mp h with rfl | h
        · simp
        · rcases ih h with h | h <;> simp [h]

/-- A write keeps the canonical form. -/
theorem Memory.write_wf {m : Memory} (hm : m.wf = true) (a : Nat) (b : Byte) : (m.write a b).wf = true := by
  induction m with
  | nil =>
    simp only [Memory.write, Memory.cons]
    split <;> simp_all [Memory.wf]
  | cons c m ih =>
    have hlt := Memory.wf_head_lt hm
    simp only [Memory.write, Memory.cons]
    split_ifs with h1 hb h2 hb
    · exact hm
    · refine Memory.wf_cons hm hb ?_
      intro d hd
      rcases List.mem_cons.mp hd with rfl | hd
      · exact h1
      · exact h1.trans (hlt d hd)
    · exact Memory.wf_tail hm
    · exact Memory.wf_cons (Memory.wf_tail hm) hb (fun d hd => h2 ▸ hlt d hd)
    · refine Memory.wf_cons (ih (Memory.wf_tail hm)) (Memory.wf_head_ne hm) ?_
      intro d hd
      rcases Memory.mem_write hd with hd | hd
      · exact hlt d hd
      · omega

/-! ## Reading after writing -/

/-- Reading the address written gives the byte written. -/
theorem Memory.read_write_same {m : Memory} (hm : m.wf = true) (a : Nat) (b : Byte) : (m.write a b).read a = b := by
  induction m with
  | nil =>
    simp only [Memory.write, Memory.cons]
    split <;> simp_all [Memory.read]
  | cons c m ih =>
    have hlt := Memory.wf_head_lt hm
    simp only [Memory.write, Memory.cons]
    split_ifs with h1 hb h2 hb
    · refine (Memory.read_eq_zero ?_).trans hb.symm
      intro d hd
      rcases List.mem_cons.mp hd with rfl | hd
      · omega
      · have := hlt d hd
        omega
    · simp [Memory.read]
    · refine (Memory.read_eq_zero ?_).trans hb.symm
      intro d hd
      have := hlt d hd
      omega
    · simp [Memory.read]
    · simp only [Memory.read, ih (Memory.wf_tail hm)]
      rw [if_neg (fun e => h2 e.symm)]

/-- Reading another address gives what it held. -/
theorem Memory.read_write_other (m : Memory) {a a' : Nat} (b : Byte) (h : a' ≠ a) :
    (m.write a b).read a' = m.read a' := by
  have h' : a ≠ a' := h.symm
  induction m with
  | nil =>
    simp only [Memory.write, Memory.cons]
    split <;> simp_all [Memory.read]
  | cons c m ih =>
    simp only [Memory.write, Memory.cons]
    split_ifs with h1 hb h2 hb
    · rfl
    · simp [Memory.read, h']
    · simp [Memory.read, ← h2, h']
    · simp [Memory.read, ← h2, h']
    · simp [Memory.read, ih]

/-! ## Byte sequences -/

theorem Memory.writeBytes_wf {m : Memory} (hm : m.wf = true) (a : Nat) (bs : List Byte) :
    (m.writeBytes a bs).wf = true := by
  induction bs generalizing m a with
  | nil => exact hm
  | cons b bs ih => exact ih (Memory.write_wf hm a b) (a + 1)

/-- An address outside the bytes written keeps its byte. -/
theorem Memory.read_writeBytes_outside (m : Memory) (a : Nat) (bs : List Byte) {x : Nat}
    (h : x < a ∨ a + bs.length ≤ x) : (m.writeBytes a bs).read x = m.read x := by
  induction bs generalizing m a with
  | nil => rfl
  | cons b bs ih =>
    simp only [List.length_cons] at h
    simp only [Memory.writeBytes]
    rw [ih (m.write a b) (a + 1) (by omega), Memory.read_write_other m b (by omega)]

/-- Byte `j` of the bytes written stands at offset `j`. -/
theorem Memory.read_writeBytes_inside {m : Memory} (hm : m.wf = true) (a : Nat) (bs : List Byte) {j : Nat}
    (h : j < bs.length) : (m.writeBytes a bs).read (a + j) = bs[j] := by
  induction bs generalizing m a j with
  | nil => simp at h
  | cons b bs ih =>
    simp only [Memory.writeBytes]
    cases j with
    | zero =>
      rw [Memory.read_writeBytes_outside _ _ _ (by omega)]
      simpa using Memory.read_write_same hm a b
    | succ j =>
      have := ih (Memory.write_wf hm a b) (a + 1) (j := j) (by simpa using h)
      simpa [Nat.add_assoc, Nat.add_comm 1 j] using this

/-- Every listed address after writing bytes was listed or lies among the bytes written. -/
theorem Memory.mem_writeBytes {m : Memory} {a : Nat} {bs : List Byte} {c : Host.Cell} (h : c ∈ m.writeBytes a bs) :
    c ∈ m ∨ (a ≤ c.1 ∧ c.1 < a + bs.length) := by
  induction bs generalizing m a with
  | nil => exact .inl h
  | cons b bs ih =>
    simp only [List.length_cons]
    rcases ih h with h | h
    · rcases Memory.mem_write h with h | h
      · exact .inl h
      · right; omega
    · right; omega

@[simp] theorem Memory.length_take (m : Memory) (n : Nat) : (m.take n).length = n := by simp [Memory.take]

theorem Memory.getElem_take (m : Memory) {n j : Nat} (h : j < (m.take n).length) : (m.take n)[j] = m.read j := by
  simp [Memory.take]

/-! ## Bits -/

theorem putBitInByte_getLsbD (b : Byte) (p : Nat) (x : Bool) (k : Nat) (hk : k < 8) :
    (putBitInByte b p x).getLsbD k = if k = 7 - p % 8 then x else b.getLsbD k := by
  have hp : p % 8 < 8 := Nat.mod_lt _ (by decide)
  unfold putBitInByte
  generalize p % 8 = r at *
  revert b x
  interval_cases k <;> interval_cases r <;> decide +revert

theorem Memory.writeBit_wf {m : Memory} (hm : m.wf = true) (p : Nat) (x : Bool) : (m.writeBit p x).wf = true :=
  Memory.write_wf hm _ _

/-- Writing one bit sets that bit and no other. -/
theorem Memory.readBit_writeBit {m : Memory} (hm : m.wf = true) (p q : Nat) (x : Bool) :
    (m.writeBit p x).readBit q = if q = p then x else m.readBit q := by
  unfold Memory.readBit Memory.writeBit
  by_cases hd : q / 8 = p / 8
  · rw [hd, Memory.read_write_same hm, putBitInByte_getLsbD _ _ _ _ (by omega)]
    have : (7 - q % 8 = 7 - p % 8) ↔ q = p := by omega
    simp only [this]
  · rw [Memory.read_write_other _ _ hd, if_neg (fun e : q = p => hd (by rw [e]))]

theorem Memory.writeBits_wf {m : Memory} (hm : m.wf = true) (p : Nat) (v : Word) (n : Nat) :
    (m.writeBits p v n).wf = true := by
  induction n generalizing m p with
  | zero => exact hm
  | succ n ih => exact ih (Memory.writeBit_wf hm _ _) (p + 1)

/-- The bits written stand most significant first, every other bit is kept (43_framer.md R266). -/
theorem Memory.readBit_writeBits {m : Memory} (hm : m.wf = true) (p : Nat) (v : Word) (n q : Nat) :
    (m.writeBits p v n).readBit q = if p ≤ q ∧ q < p + n then v.getLsbD (n - 1 - (q - p)) else m.readBit q := by
  induction n generalizing m p with
  | zero => rw [if_neg (by omega)]; rfl
  | succ n ih =>
    simp only [Memory.writeBits]
    rw [ih (Memory.writeBit_wf hm _ _), Memory.readBit_writeBit hm]
    by_cases h0 : q = p
    · subst h0
      simp
    · by_cases h1 : p + 1 ≤ q ∧ q < p + 1 + n
      · rw [if_pos h1, if_pos (by omega)]
        congr 1
        omega
      · rw [if_neg h1, if_neg h0, if_neg (by omega)]

/-- Every listed address after writing bits was listed or holds one of the bits written. -/
theorem Memory.mem_writeBits {m : Memory} {p : Nat} {v : Word} {n : Nat} {c : Host.Cell} (h : c ∈ m.writeBits p v n) :
    c ∈ m ∨ ∃ q, p ≤ q ∧ q < p + n ∧ c.1 = q / 8 := by
  induction n generalizing m p with
  | zero => exact .inl h
  | succ n ih =>
    rcases ih h with h | ⟨q, h1, h2, h3⟩
    · rcases Memory.mem_write h with h | h
      · exact .inl h
      · exact .inr ⟨p, le_refl _, by omega, h⟩
    · exact .inr ⟨q, by omega, by omega, h3⟩

/-- A byte is zero when all its bits are. -/
theorem Memory.read_eq_zero_of_bits {m : Memory} {a : Nat} (h : ∀ p, p / 8 = a → m.readBit p = false) :
    m.read a = 0 := by
  apply BitVec.eq_of_getLsbD_eq
  intro k hk
  have := h (8 * a + (7 - k)) (by omega)
  unfold Memory.readBit at this
  rw [show (8 * a + (7 - k)) / 8 = a by omega, show 7 - (8 * a + (7 - k)) % 8 = k by omega] at this
  simpa using this

end Sys2Proof.Machine
end

