-- ==== Sys2Proof/Laws/State.lean ====
section
/-! SUPPORT. One lemma per field per shared update of State, true by rfl, so that no proof unfolds a record update. -/
namespace Sys2Proof.Machine

/-! ## succeed -/

@[simp] theorem succeed_cfg (op : Byte) (v : Word) (s : State) : (succeed op v s).cfg = s.cfg := rfl
@[simp] theorem succeed_session (op : Byte) (v : Word) (s : State) : (succeed op v s).session = s.session := rfl
@[simp] theorem succeed_table (op : Byte) (v : Word) (s : State) : (succeed op v s).table = s.table := rfl
@[simp] theorem succeed_tblLock (op : Byte) (v : Word) (s : State) : (succeed op v s).tblLock = s.tblLock := rfl
@[simp] theorem succeed_dfPhase (op : Byte) (v : Word) (s : State) : (succeed op v s).dfPhase = s.dfPhase := rfl
@[simp] theorem succeed_dfOpc (op : Byte) (v : Word) (s : State) : (succeed op v s).dfOpc = s.dfOpc := rfl
@[simp] theorem succeed_dfLen (op : Byte) (v : Word) (s : State) : (succeed op v s).dfLen = s.dfLen := rfl
@[simp] theorem succeed_dfCnt (op : Byte) (v : Word) (s : State) : (succeed op v s).dfCnt = s.dfCnt := rfl
@[simp] theorem succeed_dfBuf (op : Byte) (v : Word) (s : State) : (succeed op v s).dfBuf = s.dfBuf := rfl
@[simp] theorem succeed_frq (op : Byte) (v : Word) (s : State) : (succeed op v s).frq = s.frq := rfl
@[simp] theorem succeed_txOpen (op : Byte) (v : Word) (s : State) : (succeed op v s).txOpen = s.txOpen := rfl
@[simp] theorem succeed_txOpcode (op : Byte) (v : Word) (s : State) : (succeed op v s).txOpcode = s.txOpcode := rfl
@[simp] theorem succeed_txMode (op : Byte) (v : Word) (s : State) : (succeed op v s).txMode = s.txMode := rfl
@[simp] theorem succeed_txBitMode (op : Byte) (v : Word) (s : State) : (succeed op v s).txBitMode = s.txBitMode := rfl
@[simp] theorem succeed_txBytePos (op : Byte) (v : Word) (s : State) : (succeed op v s).txBytePos = s.txBytePos := rfl
@[simp] theorem succeed_txBitPos (op : Byte) (v : Word) (s : State) : (succeed op v s).txBitPos = s.txBitPos := rfl
@[simp] theorem succeed_txBuf (op : Byte) (v : Word) (s : State) : (succeed op v s).txBuf = s.txBuf := rfl
@[simp] theorem succeed_ph (op : Byte) (v : Word) (s : State) : (succeed op v s).ph = s.ph := rfl
@[simp] theorem succeed_txq (op : Byte) (v : Word) (s : State) : (succeed op v s).txq = s.txq := rfl
@[simp] theorem succeed_data0 (op : Byte) (v : Word) (s : State) : (succeed op v s).data0 = s.data0 := rfl
@[simp] theorem succeed_data1 (op : Byte) (v : Word) (s : State) : (succeed op v s).data1 = s.data1 := rfl
@[simp] theorem succeed_data2 (op : Byte) (v : Word) (s : State) : (succeed op v s).data2 = s.data2 := rfl
@[simp] theorem succeed_data3 (op : Byte) (v : Word) (s : State) : (succeed op v s).data3 = s.data3 := rfl
@[simp] theorem succeed_result (op : Byte) (v : Word) (s : State) : (succeed op v s).result = resultWord op 0x00 := rfl
@[simp] theorem succeed_rval (op : Byte) (v : Word) (s : State) : (succeed op v s).rval = v := rfl
@[simp] theorem succeed_errLog (op : Byte) (v : Word) (s : State) : (succeed op v s).errLog = s.errLog := rfl
@[simp] theorem succeed_irqEn (op : Byte) (v : Word) (s : State) : (succeed op v s).irqEn = s.irqEn := rfl
@[simp] theorem succeed_rst (op : Byte) (v : Word) (s : State) : (succeed op v s).rst = s.rst := rfl
@[simp] theorem succeed_port (op : Byte) (v : Word) (s : State) : (succeed op v s).port = s.port := rfl
@[simp] theorem succeed_resp (op : Byte) (v : Word) (s : State) : (succeed op v s).resp = s.resp := rfl

/-! ## raise -/

@[simp] theorem raise_cfg (op : Byte) (e : ErrorCode) (s : State) : (raise op e s).cfg = s.cfg := rfl
@[simp] theorem raise_session (op : Byte) (e : ErrorCode) (s : State) : (raise op e s).session = s.session := rfl
@[simp] theorem raise_table (op : Byte) (e : ErrorCode) (s : State) : (raise op e s).table = s.table := rfl
@[simp] theorem raise_tblLock (op : Byte) (e : ErrorCode) (s : State) : (raise op e s).tblLock = s.tblLock := rfl
@[simp] theorem raise_dfPhase (op : Byte) (e : ErrorCode) (s : State) : (raise op e s).dfPhase = s.dfPhase := rfl
@[simp] theorem raise_dfOpc (op : Byte) (e : ErrorCode) (s : State) : (raise op e s).dfOpc = s.dfOpc := rfl
@[simp] theorem raise_dfLen (op : Byte) (e : ErrorCode) (s : State) : (raise op e s).dfLen = s.dfLen := rfl
@[simp] theorem raise_dfCnt (op : Byte) (e : ErrorCode) (s : State) : (raise op e s).dfCnt = s.dfCnt := rfl
@[simp] theorem raise_dfBuf (op : Byte) (e : ErrorCode) (s : State) : (raise op e s).dfBuf = s.dfBuf := rfl
@[simp] theorem raise_frq (op : Byte) (e : ErrorCode) (s : State) : (raise op e s).frq = s.frq := rfl
@[simp] theorem raise_txOpen (op : Byte) (e : ErrorCode) (s : State) : (raise op e s).txOpen = s.txOpen := rfl
@[simp] theorem raise_txOpcode (op : Byte) (e : ErrorCode) (s : State) : (raise op e s).txOpcode = s.txOpcode := rfl
@[simp] theorem raise_txMode (op : Byte) (e : ErrorCode) (s : State) : (raise op e s).txMode = s.txMode := rfl
@[simp] theorem raise_txBitMode (op : Byte) (e : ErrorCode) (s : State) : (raise op e s).txBitMode = s.txBitMode := rfl
@[simp] theorem raise_txBytePos (op : Byte) (e : ErrorCode) (s : State) : (raise op e s).txBytePos = s.txBytePos := rfl
@[simp] theorem raise_txBitPos (op : Byte) (e : ErrorCode) (s : State) : (raise op e s).txBitPos = s.txBitPos := rfl
@[simp] theorem raise_txBuf (op : Byte) (e : ErrorCode) (s : State) : (raise op e s).txBuf = s.txBuf := rfl
@[simp] theorem raise_ph (op : Byte) (e : ErrorCode) (s : State) : (raise op e s).ph = s.ph := rfl
@[simp] theorem raise_txq (op : Byte) (e : ErrorCode) (s : State) : (raise op e s).txq = s.txq := rfl
@[simp] theorem raise_data0 (op : Byte) (e : ErrorCode) (s : State) : (raise op e s).data0 = s.data0 := rfl
@[simp] theorem raise_data1 (op : Byte) (e : ErrorCode) (s : State) : (raise op e s).data1 = s.data1 := rfl
@[simp] theorem raise_data2 (op : Byte) (e : ErrorCode) (s : State) : (raise op e s).data2 = s.data2 := rfl
@[simp] theorem raise_data3 (op : Byte) (e : ErrorCode) (s : State) : (raise op e s).data3 = s.data3 := rfl
@[simp] theorem raise_result (op : Byte) (e : ErrorCode) (s : State) : (raise op e s).result = resultWord op e.code := rfl
@[simp] theorem raise_rval (op : Byte) (e : ErrorCode) (s : State) : (raise op e s).rval = 0 := rfl
@[simp] theorem raise_errLog (op : Byte) (e : ErrorCode) (s : State) : (raise op e s).errLog = s.errLog ||| e.errBit := rfl
@[simp] theorem raise_irqEn (op : Byte) (e : ErrorCode) (s : State) : (raise op e s).irqEn = s.irqEn := rfl
@[simp] theorem raise_rst (op : Byte) (e : ErrorCode) (s : State) : (raise op e s).rst = s.rst := rfl
@[simp] theorem raise_port (op : Byte) (e : ErrorCode) (s : State) : (raise op e s).port = s.port := rfl
@[simp] theorem raise_resp (op : Byte) (e : ErrorCode) (s : State) : (raise op e s).resp = s.resp := rfl

/-! ## closeBuilder -/

@[simp] theorem closeBuilder_cfg (s : State) : (closeBuilder s).cfg = s.cfg := rfl
@[simp] theorem closeBuilder_session (s : State) : (closeBuilder s).session = s.session := rfl
@[simp] theorem closeBuilder_table (s : State) : (closeBuilder s).table = s.table := rfl
@[simp] theorem closeBuilder_tblLock (s : State) : (closeBuilder s).tblLock = s.tblLock := rfl
@[simp] theorem closeBuilder_dfPhase (s : State) : (closeBuilder s).dfPhase = s.dfPhase := rfl
@[simp] theorem closeBuilder_dfOpc (s : State) : (closeBuilder s).dfOpc = s.dfOpc := rfl
@[simp] theorem closeBuilder_dfLen (s : State) : (closeBuilder s).dfLen = s.dfLen := rfl
@[simp] theorem closeBuilder_dfCnt (s : State) : (closeBuilder s).dfCnt = s.dfCnt := rfl
@[simp] theorem closeBuilder_dfBuf (s : State) : (closeBuilder s).dfBuf = s.dfBuf := rfl
@[simp] theorem closeBuilder_frq (s : State) : (closeBuilder s).frq = s.frq := rfl
@[simp] theorem closeBuilder_txOpen (s : State) : (closeBuilder s).txOpen = false := rfl
@[simp] theorem closeBuilder_txOpcode (s : State) : (closeBuilder s).txOpcode = 0 := rfl
@[simp] theorem closeBuilder_txMode (s : State) : (closeBuilder s).txMode = .fixed := rfl
@[simp] theorem closeBuilder_txBitMode (s : State) : (closeBuilder s).txBitMode = false := rfl
@[simp] theorem closeBuilder_txBytePos (s : State) : (closeBuilder s).txBytePos = 0 := rfl
@[simp] theorem closeBuilder_txBitPos (s : State) : (closeBuilder s).txBitPos = 0 := rfl
@[simp] theorem closeBuilder_txBuf (s : State) : (closeBuilder s).txBuf = s.txBuf := rfl
@[simp] theorem closeBuilder_ph (s : State) : (closeBuilder s).ph = [] := rfl
@[simp] theorem closeBuilder_txq (s : State) : (closeBuilder s).txq = s.txq := rfl
@[simp] theorem closeBuilder_data0 (s : State) : (closeBuilder s).data0 = s.data0 := rfl
@[simp] theorem closeBuilder_data1 (s : State) : (closeBuilder s).data1 = s.data1 := rfl
@[simp] theorem closeBuilder_data2 (s : State) : (closeBuilder s).data2 = s.data2 := rfl
@[simp] theorem closeBuilder_data3 (s : State) : (closeBuilder s).data3 = s.data3 := rfl
@[simp] theorem closeBuilder_result (s : State) : (closeBuilder s).result = s.result := rfl
@[simp] theorem closeBuilder_rval (s : State) : (closeBuilder s).rval = s.rval := rfl
@[simp] theorem closeBuilder_errLog (s : State) : (closeBuilder s).errLog = s.errLog := rfl
@[simp] theorem closeBuilder_irqEn (s : State) : (closeBuilder s).irqEn = s.irqEn := rfl
@[simp] theorem closeBuilder_rst (s : State) : (closeBuilder s).rst = s.rst := rfl
@[simp] theorem closeBuilder_port (s : State) : (closeBuilder s).port = s.port := rfl
@[simp] theorem closeBuilder_resp (s : State) : (closeBuilder s).resp = s.resp := rfl

/-! ## closeSession -/

@[simp] theorem closeSession_cfg (s : State) : (closeSession s).cfg = s.cfg := rfl
@[simp] theorem closeSession_session (s : State) : (closeSession s).session = none := rfl
@[simp] theorem closeSession_table (s : State) : (closeSession s).table = s.table := rfl
@[simp] theorem closeSession_tblLock (s : State) : (closeSession s).tblLock = s.tblLock := rfl
@[simp] theorem closeSession_dfPhase (s : State) : (closeSession s).dfPhase = .opc := rfl
@[simp] theorem closeSession_dfOpc (s : State) : (closeSession s).dfOpc = 0 := rfl
@[simp] theorem closeSession_dfLen (s : State) : (closeSession s).dfLen = 0 := rfl
@[simp] theorem closeSession_dfCnt (s : State) : (closeSession s).dfCnt = 0 := rfl
@[simp] theorem closeSession_dfBuf (s : State) : (closeSession s).dfBuf = s.dfBuf := rfl
@[simp] theorem closeSession_frq (s : State) : (closeSession s).frq = [] := rfl
@[simp] theorem closeSession_txOpen (s : State) : (closeSession s).txOpen = false := rfl
@[simp] theorem closeSession_txOpcode (s : State) : (closeSession s).txOpcode = 0 := rfl
@[simp] theorem closeSession_txMode (s : State) : (closeSession s).txMode = .fixed := rfl
@[simp] theorem closeSession_txBitMode (s : State) : (closeSession s).txBitMode = false := rfl
@[simp] theorem closeSession_txBytePos (s : State) : (closeSession s).txBytePos = 0 := rfl
@[simp] theorem closeSession_txBitPos (s : State) : (closeSession s).txBitPos = 0 := rfl
@[simp] theorem closeSession_txBuf (s : State) : (closeSession s).txBuf = s.txBuf := rfl
@[simp] theorem closeSession_ph (s : State) : (closeSession s).ph = [] := rfl
@[simp] theorem closeSession_txq (s : State) : (closeSession s).txq = [] := rfl
@[simp] theorem closeSession_data0 (s : State) : (closeSession s).data0 = s.data0 := rfl
@[simp] theorem closeSession_data1 (s : State) : (closeSession s).data1 = s.data1 := rfl
@[simp] theorem closeSession_data2 (s : State) : (closeSession s).data2 = s.data2 := rfl
@[simp] theorem closeSession_data3 (s : State) : (closeSession s).data3 = s.data3 := rfl
@[simp] theorem closeSession_result (s : State) : (closeSession s).result = s.result := rfl
@[simp] theorem closeSession_rval (s : State) : (closeSession s).rval = s.rval := rfl
@[simp] theorem closeSession_errLog (s : State) : (closeSession s).errLog = s.errLog := rfl
@[simp] theorem closeSession_irqEn (s : State) : (closeSession s).irqEn = s.irqEn := rfl
@[simp] theorem closeSession_rst (s : State) : (closeSession s).rst = s.rst := rfl
@[simp] theorem closeSession_port (s : State) : (closeSession s).port = s.port := rfl
@[simp] theorem closeSession_resp (s : State) : (closeSession s).resp = s.resp := rfl

/-! ## openBuilder -/

@[simp] theorem openBuilder_cfg (o : Byte) (m : TxMode) (s : State) : (openBuilder o m s).cfg = s.cfg := rfl
@[simp] theorem openBuilder_session (o : Byte) (m : TxMode) (s : State) : (openBuilder o m s).session = s.session := rfl
@[simp] theorem openBuilder_table (o : Byte) (m : TxMode) (s : State) : (openBuilder o m s).table = s.table := rfl
@[simp] theorem openBuilder_tblLock (o : Byte) (m : TxMode) (s : State) : (openBuilder o m s).tblLock = s.tblLock := rfl
@[simp] theorem openBuilder_dfPhase (o : Byte) (m : TxMode) (s : State) : (openBuilder o m s).dfPhase = s.dfPhase := rfl
@[simp] theorem openBuilder_dfOpc (o : Byte) (m : TxMode) (s : State) : (openBuilder o m s).dfOpc = s.dfOpc := rfl
@[simp] theorem openBuilder_dfLen (o : Byte) (m : TxMode) (s : State) : (openBuilder o m s).dfLen = s.dfLen := rfl
@[simp] theorem openBuilder_dfCnt (o : Byte) (m : TxMode) (s : State) : (openBuilder o m s).dfCnt = s.dfCnt := rfl
@[simp] theorem openBuilder_dfBuf (o : Byte) (m : TxMode) (s : State) : (openBuilder o m s).dfBuf = s.dfBuf := rfl
@[simp] theorem openBuilder_frq (o : Byte) (m : TxMode) (s : State) : (openBuilder o m s).frq = s.frq := rfl
@[simp] theorem openBuilder_txOpen (o : Byte) (m : TxMode) (s : State) : (openBuilder o m s).txOpen = true := rfl
@[simp] theorem openBuilder_txOpcode (o : Byte) (m : TxMode) (s : State) : (openBuilder o m s).txOpcode = o := rfl
@[simp] theorem openBuilder_txMode (o : Byte) (m : TxMode) (s : State) : (openBuilder o m s).txMode = m := rfl
@[simp] theorem openBuilder_txBitMode (o : Byte) (m : TxMode) (s : State) : (openBuilder o m s).txBitMode = false := rfl
@[simp] theorem openBuilder_txBytePos (o : Byte) (m : TxMode) (s : State) : (openBuilder o m s).txBytePos = 0 := rfl
@[simp] theorem openBuilder_txBitPos (o : Byte) (m : TxMode) (s : State) : (openBuilder o m s).txBitPos = 0 := rfl
@[simp] theorem openBuilder_txBuf (o : Byte) (m : TxMode) (s : State) : (openBuilder o m s).txBuf = [] := rfl
@[simp] theorem openBuilder_ph (o : Byte) (m : TxMode) (s : State) : (openBuilder o m s).ph = [] := rfl
@[simp] theorem openBuilder_txq (o : Byte) (m : TxMode) (s : State) : (openBuilder o m s).txq = s.txq := rfl
@[simp] theorem openBuilder_data0 (o : Byte) (m : TxMode) (s : State) : (openBuilder o m s).data0 = s.data0 := rfl
@[simp] theorem openBuilder_data1 (o : Byte) (m : TxMode) (s : State) : (openBuilder o m s).data1 = s.data1 := rfl
@[simp] theorem openBuilder_data2 (o : Byte) (m : TxMode) (s : State) : (openBuilder o m s).data2 = s.data2 := rfl
@[simp] theorem openBuilder_data3 (o : Byte) (m : TxMode) (s : State) : (openBuilder o m s).data3 = s.data3 := rfl
@[simp] theorem openBuilder_result (o : Byte) (m : TxMode) (s : State) : (openBuilder o m s).result = s.result := rfl
@[simp] theorem openBuilder_rval (o : Byte) (m : TxMode) (s : State) : (openBuilder o m s).rval = s.rval := rfl
@[simp] theorem openBuilder_errLog (o : Byte) (m : TxMode) (s : State) : (openBuilder o m s).errLog = s.errLog := rfl
@[simp] theorem openBuilder_irqEn (o : Byte) (m : TxMode) (s : State) : (openBuilder o m s).irqEn = s.irqEn := rfl
@[simp] theorem openBuilder_rst (o : Byte) (m : TxMode) (s : State) : (openBuilder o m s).rst = s.rst := rfl
@[simp] theorem openBuilder_port (o : Byte) (m : TxMode) (s : State) : (openBuilder o m s).port = s.port := rfl
@[simp] theorem openBuilder_resp (o : Byte) (m : TxMode) (s : State) : (openBuilder o m s).resp = s.resp := rfl

/-! ## hardReset -/

@[simp] theorem hardReset_cfg (s : State) : (hardReset s).cfg = s.cfg := rfl
@[simp] theorem hardReset_session (s : State) : (hardReset s).session = State.reset.session := rfl
@[simp] theorem hardReset_table (s : State) : (hardReset s).table = State.reset.table := rfl
@[simp] theorem hardReset_tblLock (s : State) : (hardReset s).tblLock = State.reset.tblLock := rfl
@[simp] theorem hardReset_dfPhase (s : State) : (hardReset s).dfPhase = State.reset.dfPhase := rfl
@[simp] theorem hardReset_dfOpc (s : State) : (hardReset s).dfOpc = State.reset.dfOpc := rfl
@[simp] theorem hardReset_dfLen (s : State) : (hardReset s).dfLen = State.reset.dfLen := rfl
@[simp] theorem hardReset_dfCnt (s : State) : (hardReset s).dfCnt = State.reset.dfCnt := rfl
@[simp] theorem hardReset_dfBuf (s : State) : (hardReset s).dfBuf = State.reset.dfBuf := rfl
@[simp] theorem hardReset_frq (s : State) : (hardReset s).frq = State.reset.frq := rfl
@[simp] theorem hardReset_txOpen (s : State) : (hardReset s).txOpen = State.reset.txOpen := rfl
@[simp] theorem hardReset_txOpcode (s : State) : (hardReset s).txOpcode = State.reset.txOpcode := rfl
@[simp] theorem hardReset_txMode (s : State) : (hardReset s).txMode = State.reset.txMode := rfl
@[simp] theorem hardReset_txBitMode (s : State) : (hardReset s).txBitMode = State.reset.txBitMode := rfl
@[simp] theorem hardReset_txBytePos (s : State) : (hardReset s).txBytePos = State.reset.txBytePos := rfl
@[simp] theorem hardReset_txBitPos (s : State) : (hardReset s).txBitPos = State.reset.txBitPos := rfl
@[simp] theorem hardReset_txBuf (s : State) : (hardReset s).txBuf = State.reset.txBuf := rfl
@[simp] theorem hardReset_ph (s : State) : (hardReset s).ph = State.reset.ph := rfl
@[simp] theorem hardReset_txq (s : State) : (hardReset s).txq = State.reset.txq := rfl
@[simp] theorem hardReset_data0 (s : State) : (hardReset s).data0 = State.reset.data0 := rfl
@[simp] theorem hardReset_data1 (s : State) : (hardReset s).data1 = State.reset.data1 := rfl
@[simp] theorem hardReset_data2 (s : State) : (hardReset s).data2 = State.reset.data2 := rfl
@[simp] theorem hardReset_data3 (s : State) : (hardReset s).data3 = State.reset.data3 := rfl
@[simp] theorem hardReset_result (s : State) : (hardReset s).result = State.reset.result := rfl
@[simp] theorem hardReset_rval (s : State) : (hardReset s).rval = State.reset.rval := rfl
@[simp] theorem hardReset_errLog (s : State) : (hardReset s).errLog = State.reset.errLog := rfl
@[simp] theorem hardReset_irqEn (s : State) : (hardReset s).irqEn = State.reset.irqEn := rfl
@[simp] theorem hardReset_rst (s : State) : (hardReset s).rst = s.rst := rfl
@[simp] theorem hardReset_port (s : State) : (hardReset s).port = s.port := rfl
@[simp] theorem hardReset_resp (s : State) : (hardReset s).resp = s.resp := rfl

/-! ## presentCommand -/

@[simp] theorem presentCommand_cfg (w : Word) (s : State) : (presentCommand w s).cfg = s.cfg := rfl
@[simp] theorem presentCommand_session (w : Word) (s : State) : (presentCommand w s).session = s.session := rfl
@[simp] theorem presentCommand_table (w : Word) (s : State) : (presentCommand w s).table = s.table := rfl
@[simp] theorem presentCommand_tblLock (w : Word) (s : State) : (presentCommand w s).tblLock = s.tblLock := rfl
@[simp] theorem presentCommand_dfPhase (w : Word) (s : State) : (presentCommand w s).dfPhase = s.dfPhase := rfl
@[simp] theorem presentCommand_dfOpc (w : Word) (s : State) : (presentCommand w s).dfOpc = s.dfOpc := rfl
@[simp] theorem presentCommand_dfLen (w : Word) (s : State) : (presentCommand w s).dfLen = s.dfLen := rfl
@[simp] theorem presentCommand_dfCnt (w : Word) (s : State) : (presentCommand w s).dfCnt = s.dfCnt := rfl
@[simp] theorem presentCommand_dfBuf (w : Word) (s : State) : (presentCommand w s).dfBuf = s.dfBuf := rfl
@[simp] theorem presentCommand_frq (w : Word) (s : State) : (presentCommand w s).frq = s.frq := rfl
@[simp] theorem presentCommand_txOpen (w : Word) (s : State) : (presentCommand w s).txOpen = s.txOpen := rfl
@[simp] theorem presentCommand_txOpcode (w : Word) (s : State) : (presentCommand w s).txOpcode = s.txOpcode := rfl
@[simp] theorem presentCommand_txMode (w : Word) (s : State) : (presentCommand w s).txMode = s.txMode := rfl
@[simp] theorem presentCommand_txBitMode (w : Word) (s : State) : (presentCommand w s).txBitMode = s.txBitMode := rfl
@[simp] theorem presentCommand_txBytePos (w : Word) (s : State) : (presentCommand w s).txBytePos = s.txBytePos := rfl
@[simp] theorem presentCommand_txBitPos (w : Word) (s : State) : (presentCommand w s).txBitPos = s.txBitPos := rfl
@[simp] theorem presentCommand_txBuf (w : Word) (s : State) : (presentCommand w s).txBuf = s.txBuf := rfl
@[simp] theorem presentCommand_ph (w : Word) (s : State) : (presentCommand w s).ph = s.ph := rfl
@[simp] theorem presentCommand_txq (w : Word) (s : State) : (presentCommand w s).txq = s.txq := rfl
@[simp] theorem presentCommand_data0 (w : Word) (s : State) : (presentCommand w s).data0 = s.data0 := rfl
@[simp] theorem presentCommand_data1 (w : Word) (s : State) : (presentCommand w s).data1 = s.data1 := rfl
@[simp] theorem presentCommand_data2 (w : Word) (s : State) : (presentCommand w s).data2 = s.data2 := rfl
@[simp] theorem presentCommand_data3 (w : Word) (s : State) : (presentCommand w s).data3 = s.data3 := rfl
@[simp] theorem presentCommand_result (w : Word) (s : State) : (presentCommand w s).result = s.result := rfl
@[simp] theorem presentCommand_rval (w : Word) (s : State) : (presentCommand w s).rval = s.rval := rfl
@[simp] theorem presentCommand_errLog (w : Word) (s : State) : (presentCommand w s).errLog = s.errLog := rfl
@[simp] theorem presentCommand_irqEn (w : Word) (s : State) : (presentCommand w s).irqEn = s.irqEn := rfl
@[simp] theorem presentCommand_rst (w : Word) (s : State) : (presentCommand w s).rst = false := rfl
@[simp] theorem presentCommand_port (w : Word) (s : State) : (presentCommand w s).port = .access (.write 4 (s.cfg.kfbBase + Reg.cmd.offset) w) :: s.port := rfl
@[simp] theorem presentCommand_resp (w : Word) (s : State) : (presentCommand w s).resp = s.resp := rfl

/-! ## busError -/

@[simp] theorem busError_cfg (s : State) : (busError s).cfg = s.cfg := rfl
@[simp] theorem busError_session (s : State) : (busError s).session = s.session := rfl
@[simp] theorem busError_table (s : State) : (busError s).table = s.table := rfl
@[simp] theorem busError_tblLock (s : State) : (busError s).tblLock = s.tblLock := rfl
@[simp] theorem busError_dfPhase (s : State) : (busError s).dfPhase = s.dfPhase := rfl
@[simp] theorem busError_dfOpc (s : State) : (busError s).dfOpc = s.dfOpc := rfl
@[simp] theorem busError_dfLen (s : State) : (busError s).dfLen = s.dfLen := rfl
@[simp] theorem busError_dfCnt (s : State) : (busError s).dfCnt = s.dfCnt := rfl
@[simp] theorem busError_dfBuf (s : State) : (busError s).dfBuf = s.dfBuf := rfl
@[simp] theorem busError_frq (s : State) : (busError s).frq = s.frq := rfl
@[simp] theorem busError_txOpen (s : State) : (busError s).txOpen = s.txOpen := rfl
@[simp] theorem busError_txOpcode (s : State) : (busError s).txOpcode = s.txOpcode := rfl
@[simp] theorem busError_txMode (s : State) : (busError s).txMode = s.txMode := rfl
@[simp] theorem busError_txBitMode (s : State) : (busError s).txBitMode = s.txBitMode := rfl
@[simp] theorem busError_txBytePos (s : State) : (busError s).txBytePos = s.txBytePos := rfl
@[simp] theorem busError_txBitPos (s : State) : (busError s).txBitPos = s.txBitPos := rfl
@[simp] theorem busError_txBuf (s : State) : (busError s).txBuf = s.txBuf := rfl
@[simp] theorem busError_ph (s : State) : (busError s).ph = s.ph := rfl
@[simp] theorem busError_txq (s : State) : (busError s).txq = s.txq := rfl
@[simp] theorem busError_data0 (s : State) : (busError s).data0 = s.data0 := rfl
@[simp] theorem busError_data1 (s : State) : (busError s).data1 = s.data1 := rfl
@[simp] theorem busError_data2 (s : State) : (busError s).data2 = s.data2 := rfl
@[simp] theorem busError_data3 (s : State) : (busError s).data3 = s.data3 := rfl
@[simp] theorem busError_result (s : State) : (busError s).result = s.result := rfl
@[simp] theorem busError_rval (s : State) : (busError s).rval = s.rval := rfl
@[simp] theorem busError_errLog (s : State) : (busError s).errLog = s.errLog := rfl
@[simp] theorem busError_irqEn (s : State) : (busError s).irqEn = s.irqEn := rfl
@[simp] theorem busError_rst (s : State) : (busError s).rst = s.rst := rfl
@[simp] theorem busError_port (s : State) : (busError s).port = s.port := rfl
@[simp] theorem busError_resp (s : State) : (busError s).resp = .busError := rfl

/-! ## reset -/

@[simp] theorem reset_cfg : State.reset.cfg = Params.default := rfl
@[simp] theorem reset_session : State.reset.session = none := rfl
@[simp] theorem reset_table : State.reset.table = Array256.fill TableEntry.empty := rfl
@[simp] theorem reset_tblLock : State.reset.tblLock = false := rfl
@[simp] theorem reset_dfPhase : State.reset.dfPhase = .opc := rfl
@[simp] theorem reset_dfOpc : State.reset.dfOpc = 0 := rfl
@[simp] theorem reset_dfLen : State.reset.dfLen = 0 := rfl
@[simp] theorem reset_dfCnt : State.reset.dfCnt = 0 := rfl
@[simp] theorem reset_dfBuf : State.reset.dfBuf = [] := rfl
@[simp] theorem reset_frq : State.reset.frq = [] := rfl
@[simp] theorem reset_txOpen : State.reset.txOpen = false := rfl
@[simp] theorem reset_txOpcode : State.reset.txOpcode = 0 := rfl
@[simp] theorem reset_txMode : State.reset.txMode = .fixed := rfl
@[simp] theorem reset_txBitMode : State.reset.txBitMode = false := rfl
@[simp] theorem reset_txBytePos : State.reset.txBytePos = 0 := rfl
@[simp] theorem reset_txBitPos : State.reset.txBitPos = 0 := rfl
@[simp] theorem reset_txBuf : State.reset.txBuf = [] := rfl
@[simp] theorem reset_ph : State.reset.ph = [] := rfl
@[simp] theorem reset_txq : State.reset.txq = [] := rfl
@[simp] theorem reset_data0 : State.reset.data0 = 0 := rfl
@[simp] theorem reset_data1 : State.reset.data1 = 0 := rfl
@[simp] theorem reset_data2 : State.reset.data2 = 0 := rfl
@[simp] theorem reset_data3 : State.reset.data3 = 0 := rfl
@[simp] theorem reset_result : State.reset.result = 0 := rfl
@[simp] theorem reset_rval : State.reset.rval = 0 := rfl
@[simp] theorem reset_errLog : State.reset.errLog = 0 := rfl
@[simp] theorem reset_irqEn : State.reset.irqEn = 0 := rfl
@[simp] theorem reset_rst : State.reset.rst = false := rfl
@[simp] theorem reset_port : State.reset.port = [] := rfl
@[simp] theorem reset_resp : State.reset.resp = .none := rfl

end Sys2Proof.Machine
end

