-- ==== Sys2Proof/Laws/Ops.lean ====
section
/-! SUPPORT. One lemma per shared operation, saying once everything it can do. -/
namespace Sys2Proof.Machine

/-! ## The end of a command -/

/-- A command that answers a next state succeeded or raised (60_exceptions.md R341, R342). -/
theorem endCommand_next {op : Byte} {s t : State} {r : CmdEnd} :
    endCommand op s r = .next t ↔
      (∃ u v, r = .ok (u, v) ∧ t = succeed op v u) ∨ (∃ e, r = .error e ∧ t = raise op e s) := by
  cases r with
  | ok p => cases p; simp [endCommand, eq_comm]
  | error e => simp [endCommand, eq_comm]

/-- A command always answers a next state (60_exceptions.md R345). -/
theorem endCommand_total (op : Byte) (s : State) (r : CmdEnd) : ∃ t, endCommand op s r = .next t := by
  cases r <;> exact ⟨_, rfl⟩

@[simp] theorem endCommand_ok (op : Byte) (s t : State) (v : Word) :
    endCommand op s (.ok (t, v)) = .next (succeed op v t) := rfl

@[simp] theorem endCommand_error (op : Byte) (s : State) (e : ErrorCode) :
    endCommand op s (.error e) = .next (raise op e s) := rfl

/-! ## RESULT and ERRLOG -/

theorem resultWord_code (op code : Byte) : (resultWord op code).extractLsb' 0 8 = code := by
  apply BitVec.eq_of_getLsbD_eq
  intro k hk
  simp only [resultWord, BitVec.getLsbD_extractLsb', BitVec.getLsbD_append]
  simp [hk]

theorem resultWord_op (op code : Byte) : (resultWord op code).extractLsb' 8 8 = op := by
  apply BitVec.eq_of_getLsbD_eq
  intro k hk
  simp only [resultWord, BitVec.getLsbD_extractLsb', BitVec.getLsbD_append]
  simp [hk]

theorem resultWord_high (op code : Byte) : (resultWord op code).extractLsb' 16 16 = 0 := by
  apply BitVec.eq_of_getLsbD_eq
  intro k hk
  simp only [resultWord, BitVec.getLsbD_extractLsb', BitVec.getLsbD_append]
  simp [show ¬ 16 + k < 8 by omega, show ¬ 16 + k - 8 < 8 by omega]

/-- Every failure code is 1..17 (60_exceptions.md R340). -/
theorem ErrorCode.code_range (e : ErrorCode) : 1 ≤ e.code.toNat ∧ e.code.toNat ≤ 17 := by
  cases e <;> decide

theorem ErrorCode.code_ne_zero (e : ErrorCode) : e.code ≠ 0 := by
  cases e <;> decide

/-- The codes tell the failures apart. -/
theorem ErrorCode.code_injective {e f : ErrorCode} (h : e.code = f.code) : e = f := by
  revert h
  cases e <;> cases f <;> decide

/-- A failure sets one of the bits 1..17 (10_state.md R47). -/
theorem ErrorCode.errBit_fits (e : ErrorCode) : e.errBit &&& ~~~(0x3FFFE#32) = 0 := by
  cases e <;> decide

/-! ## PutBytes -/

/-- `PutBytes` writes all its bytes at the cursor or fails before any write (43_framer.md R268). -/
theorem putBytes_ok {bs : List Byte} {s t : State} {v : Word} :
    putBytes bs s = .ok (t, v) ↔
      s.txOpen = true ∧ s.txBitMode = false ∧ s.txBytePos.toNat + bs.length ≤ s.cfg.txCap ∧ v = 0 ∧
        t = { s with
          txBuf := s.txBuf.writeBytes s.txBytePos.toNat bs
          txBytePos := BitVec.ofNat 16 (s.txBytePos.toNat + bs.length) } := by
  unfold putBytes
  split_ifs with h1 h2 h3
  · simp [h1]
  · simp [h2]
  · simp; omega
  · simp only [Except.ok.injEq, Prod.mk.injEq]
    constructor
    · rintro ⟨rfl, rfl⟩
      exact ⟨by simpa using h1, by simpa using h2, by omega, rfl, rfl⟩
    · rintro ⟨-, -, -, rfl, rfl⟩
      exact ⟨rfl, rfl⟩

/-! ## The frame FIFO -/

/-- A frame is pushed at the tail, and only when FRQ has room (42_deframer.md R220). -/
theorem emitFrame_ok {s t u : State} {f : Frame} {v w : Word} :
    emitFrame s t f v = .ok (u, w) ↔
      s.frq.length ≠ s.cfg.frDepth ∧ w = v ∧ u = { t with frq := s.frq ++ [f] } := by
  unfold emitFrame
  split_ifs with h
  · simp [h]
  · simp [h, eq_comm, and_comm]

/-! ## Messages -/

@[simp] theorem length_markMessage (b : Bool) (bs : List Byte) : (markMessage b bs).length = bs.length := by
  induction bs generalizing b with
  | nil => rfl
  | cons x bs ih =>
    cases bs with
    | nil => rfl
    | cons y bs => simp [markMessage, ih]

/-- Marking keeps the bytes and their order (44_transmit.md R300). -/
theorem markMessage_bytes (b : Bool) (bs : List Byte) : (markMessage b bs).map TxEntry.byte = bs := by
  induction bs generalizing b with
  | nil => rfl
  | cons x bs ih =>
    cases bs with
    | nil => rfl
    | cons y bs => simp [markMessage, ih]

/-- Entry `j` is a start exactly when it is the first, an end exactly when it is the last (44_transmit.md R300). -/
theorem markMessage_getElem (b : Bool) (bs : List Byte) {j : Nat} (h : j < (markMessage b bs).length) :
    (markMessage b bs)[j] =
      ⟨bs[j]'(by simpa using h), b && decide (j = 0), decide (j + 1 = bs.length)⟩ := by
  induction bs generalizing b j with
  | nil => simp at h
  | cons x bs ih =>
    cases bs with
    | nil =>
      have : j = 0 := by simp at h; omega
      subst this
      simp [markMessage]
    | cons y bs =>
      cases j with
      | zero => simp [markMessage]
      | succ j =>
        have := ih false (j := j) (by simpa [markMessage] using h)
        simpa [markMessage] using this

/-! ## Backfill -/

@[simp] theorem length_backfill (n : Nat) (ph : List (BitVec 16)) (buf : List Byte) :
    (backfill n ph buf).length = buf.length := by
  induction ph generalizing buf with
  | nil => rfl
  | cons p ph ih => simp only [backfill, List.foldl_cons] at *; rw [ih]; simp

/-- A byte of a backfilled payload is its placeholder's negated count, or the byte written (44_transmit.md R302). -/
theorem getElem_backfill (n : Nat) (ph : List (BitVec 16)) (buf : List Byte) {j : Nat}
    (h : j < (backfill n ph buf).length) :
    (backfill n ph buf)[j] =
      if ∃ p ∈ ph, p.toNat = j then negatedCount (n - j - 1) else buf[j]'(by simpa using h) := by
  induction ph generalizing buf with
  | nil => simp [backfill]
  | cons p ph ih =>
    have e : backfill n (p :: ph) buf = backfill n ph (buf.set p.toNat (negatedCount (placeholderCount n p))) := rfl
    simp only [e]
    rw [ih]
    by_cases h1 : ∃ q ∈ ph, q.toNat = j
    · rw [if_pos h1, if_pos (by obtain ⟨q, hq, hj⟩ := h1; exact ⟨q, by simp [hq], hj⟩)]
    · rw [if_neg h1]
      by_cases h2 : p.toNat = j
      · rw [if_pos ⟨p, by simp, h2⟩]
        subst h2
        simp [placeholderCount]
      · rw [if_neg (by simp only [List.mem_cons]; rintro ⟨q, rfl | hq, hj⟩; exacts [h2 hj, h1 ⟨q, hq, hj⟩])]
        simp [h2]

@[simp] theorem length_finalPayload (s : State) : (finalPayload s).length = s.txBytePos.toNat := by
  simp [finalPayload]

theorem length_outboundMessage (s : State) (w : Word) :
    (outboundMessage s w).length = 1 + (framingBytes s.txMode s.txBytePos.toNat).length + s.txBytePos.toNat := by
  simp [outboundMessage]
  omega

/-- A count and its backfilled byte sum to 0 modulo 256 (44_transmit.md R302). -/
theorem negatedCount_toNat (c : Nat) : (negatedCount c).toNat = (256 - c) % 256 := by
  simp [negatedCount]

/-! ## Fetching from the port -/

/-- With a legal access first at the port and RST deasserted, a step is that access. -/
theorem step_access {s : State} {a : Access} {rest : List PortEvent} (hp : s.port = .access a :: rest)
    (hr : s.rst = false) : step s = portAccess a { s with port := rest } := by
  simp [step, portStep, hp, handleEvent, hr]

/-- A host access issued while RST is deasserted is that access, on the state it was issued in. -/
theorem issue_access {s : State} (hr : s.rst = false) (a : Access) : issue (.access a) s = portAccess a s :=
  step_access (s := { s with port := .access a :: s.port }) rfl hr

/-! ## Reset -/

/-- After a reset every element has its reset value (70_reset_and_hazards.md R380). -/
theorem hardReset_hasResetValues (s : State) : (hardReset s).HasResetValues := by
  constructor <;> simp [TableEntry.empty]

end Sys2Proof.Machine
end

