-- ==== Sys2Proof/Laws/PerInstr.lean ====
section
/-! SUPPORT. Lemmas stated per command, one for each constructor of Instr. -/
namespace Sys2Proof.Laws

/-! ## OpField: the OP field of a command's word is its command code (30_encoding.md R110, R113) -/

/-- The field OP of the word of `i` is the code the command map gives it. -/
def OpField.Statement (i : Instr) : Prop := fieldOP (encode i) = i.opCode

/-- The field OP of any word is what stands above its 24 operand bits. -/
theorem fieldOP_append (op : Byte) (operands : BitVec 24) : fieldOP (op ++ operands) = op :=
  BitVec.extractLsb'_append_eq_left

theorem OpField.nop (r : BitVec 24) :
    OpField.Statement (.nop r) :=
  fieldOP_append _ _

theorem OpField.seed (r : BitVec 24) :
    OpField.Statement (.seed r) :=
  fieldOP_append _ _

theorem OpField.close (r : BitVec 24) :
    OpField.Statement (.close r) :=
  fieldOP_append _ _

theorem OpField.reset (r : BitVec 24) :
    OpField.Statement (.reset r) :=
  fieldOP_append _ _

theorem OpField.tblWrite (i : Byte) (rb : BitVec 7) (v : BitVec 1) (l : Byte) :
    OpField.Statement (.tblWrite i rb v l) :=
  fieldOP_append _ _

theorem OpField.tblFill (ra : Byte) (rb : BitVec 7) (v : BitVec 1) (l : Byte) :
    OpField.Statement (.tblFill ra rb v l) :=
  fieldOP_append _ _

theorem OpField.tblLock (r : BitVec 24) :
    OpField.Statement (.tblLock r) :=
  fieldOP_append _ _

theorem OpField.tblRead (i : Byte) (rb : Half) :
    OpField.Statement (.tblRead i rb) :=
  fieldOP_append _ _

theorem OpField.rxPush (ra rb b : Byte) :
    OpField.Statement (.rxPush ra rb b) :=
  fieldOP_append _ _

theorem OpField.frRead (ra : Byte) (i : Half) :
    OpField.Statement (.frRead ra i) :=
  fieldOP_append _ _

theorem OpField.frPop (r : BitVec 24) :
    OpField.Statement (.frPop r) :=
  fieldOP_append _ _

theorem OpField.txBegin (o : Byte) (rb : BitVec 14) (m : BitVec 2) :
    OpField.Statement (.txBegin o rb m) :=
  fieldOP_append _ _

theorem OpField.txAbort (r : BitVec 24) :
    OpField.Statement (.txAbort r) :=
  fieldOP_append _ _

theorem OpField.bitMode (r : BitVec 24) :
    OpField.Statement (.bitMode r) :=
  fieldOP_append _ _

theorem OpField.byteMode (r : BitVec 24) :
    OpField.Statement (.byteMode r) :=
  fieldOP_append _ _

theorem OpField.wrBits (n : Byte) (rb : Half) :
    OpField.Statement (.wrBits n rb) :=
  fieldOP_append _ _

theorem OpField.wrByte (ra rb v : Byte) :
    OpField.Statement (.wrByte ra rb v) :=
  fieldOP_append _ _

theorem OpField.wrShortBe (ra : Byte) (v : Half) :
    OpField.Statement (.wrShortBe ra v) :=
  fieldOP_append _ _

theorem OpField.wrShortLe (ra : Byte) (v : Half) :
    OpField.Statement (.wrShortLe ra v) :=
  fieldOP_append _ _

theorem OpField.wrIntBe (r : BitVec 24) :
    OpField.Statement (.wrIntBe r) :=
  fieldOP_append _ _

theorem OpField.wrLongBe (r : BitVec 24) :
    OpField.Statement (.wrLongBe r) :=
  fieldOP_append _ _

theorem OpField.wrPlaceholder (r : BitVec 24) :
    OpField.Statement (.wrPlaceholder r) :=
  fieldOP_append _ _

theorem OpField.txSend (r : BitVec 24) :
    OpField.Statement (.txSend r) :=
  fieldOP_append _ _

theorem OpField.txPop (r : BitVec 24) :
    OpField.Statement (.txPop r) :=
  fieldOP_append _ _

end Sys2Proof.Laws
end

