-- ==== Sys2Proof/Tests/Slice0.lean ====
section
/-! SUPPORT. Tests: the argument check, the decoder on words written out from 30_encoding.md R113, single commands with
the values of 95_test_vectors.md, and states that meet the hypotheses of each statement. -/
namespace Sys2Proof.Tests

open Sys2Proof.Machine

set_option Elab.async false

/-! ## Small states -/

/-- The state after a command. -/
def after (i : Instr) (s : State) : State :=
  match exec i s with
  | .next t => t
  | .fault _ => s
  | .refused _ => s

/-- The state after a step. -/
def stepped (s : State) : State :=
  match step s with
  | .next t => t
  | .fault _ => s
  | .refused _ => s

/-- The state after an access. -/
def accessed (a : Access) (s : State) : State := stepped (atPort a s)

/-- The smallest FIFOs the vectors use: TX_CAP = 4, FR_DEPTH = 1, TXF_BYTES = 7, MAX_PH = 1. -/
def small : Params := ⟨4, 1, 7, 1, .other, 0x1000, ⟨1, 42, 3⟩⟩

/-- The table of 95_test_vectors.md section 0: FIXED 0 but for 0x04, FIXED 2, and 0xB9, VAR. -/
def bootTable : Array256 TableEntry :=
  ((Array256.fill ⟨true, false, 0⟩).set 0x04 ⟨true, false, 2⟩).set 0xB9 ⟨true, true, 0⟩

/-- The table is locked, there is no session. -/
def booted : State := { State.reset with cfg := small, table := bootTable, tblLock := true }

/-- A keystream whose first 256 words are all `w`. -/
def flat (w : Word) : KsState := .reference ⟨Array256.fill 0, Array256.fill w, 0, 0, 0, 256⟩

/-- The same keystream, advanced once. -/
def flatOnce (w : Word) : KsState := .reference ⟨Array256.fill 0, Array256.fill w, 0, 0, 0, 255⟩

/-- The first words of both directions are those of the §8 seeds. -/
def firstWords : Session := ⟨flat 0xDE9994AD, flat 0x621E2353⟩

/-- S_B of 95_test_vectors.md section 0 with small FIFOs. -/
def live : State := { booted with session := some firstWords }

/-- The frame of W5. -/
def frameW5 : Frame := ⟨0x04, 2, [0x11, 0x22]⟩

/-- `live` with a full FRQ. -/
def full : State := { live with frq := [frameW5] }

/-- In phase LEN of opcode 0xB9. -/
def inLen : State := { live with dfPhase := .len, dfOpc := 0xB9 }

/-- In phase PAY of opcode 0xB9, one byte of two stored. -/
def inPay : State := { live with dfPhase := .pay, dfOpc := 0xB9, dfLen := 2, dfCnt := 1, dfBuf := [(0, 0xAA)] }

/-- An open builder with one byte, 0x80, in byte mode. -/
def building : State :=
  { live with txOpen := true, txOpcode := 0x51, txMode := .varShort, txBytePos := 1, txBuf := [(0, 0x80)] }

/-- The same in bit mode, 29 of 32 bits written. -/
def inBits : State :=
  { building with txBitMode := true, txBitPos := 29, txBuf := [(0, 0x7F), (1, 0xFF), (2, 0xFF), (3, 0xF8)] }

/-- A builder of default capacity, empty. -/
def roomy : State :=
  { building with cfg := Params.default, txBytePos := 0, txBuf := [], txMode := .fixed, ph := [] }

/-- A full builder. -/
def packed : State := { building with txBytePos := 4 }

/-- TXQ holds one whole message of one byte. -/
def queued : State := { live with txq := [⟨0x03, true, true⟩] }

theorem small_legal : small.Legal :=
  ⟨by decide, by decide, by decide, by decide, by decide, by decide, by decide, by decide⟩

theorem default_legal : Params.default.Legal :=
  ⟨by decide, by decide, by decide, by decide, by decide, by decide, by decide, by decide⟩

theorem reset_memories_wf : State.reset.txBuf.wf = true ∧ State.reset.dfBuf.wf = true := by decide

/-! ## The argument check (30_encoding.md R112) -/

theorem test_wellFormed_refuses :
    [Instr.nop 1, .seed 1, .close 0x100, .reset 0x800000, .tblWrite 5 1 0 0, .tblWrite 5 0 1 5, .tblFill 1 0 0 0,
      .tblFill 0 1 0 0, .tblFill 0 0 1 1, .tblLock 1, .tblRead 0 1, .rxPush 1 0 0, .rxPush 0 1 0xAD, .frRead 1 0,
      .frPop 1, .txBegin 0 0 3, .txBegin 0x51 1 0, .txAbort 1, .bitMode 1, .byteMode 1, .wrBits 0 0, .wrBits 33 0,
      .wrBits 1 1, .wrByte 1 0 0, .wrByte 0 1 0, .wrShortBe 1 0, .wrShortLe 1 0, .wrIntBe 1, .wrLongBe 1,
      .wrPlaceholder 1, .txSend 1, .txPop 1].all (fun i => !i.wellFormed) = true := by decide

theorem test_wellFormed_accepts :
    [Instr.nop 0, .tblWrite 5 0 0 255, .tblWrite 5 0 1 0, .tblFill 0 0 1 0, .tblRead 255 0, .rxPush 0 0 255,
      .frRead 0 0xFFFF, .txBegin 255 0 2, .wrBits 1 0, .wrBits 32 0, .wrByte 0 0 255].all Instr.wellFormed = true := by
  decide

/-! ## Decoding words written out from 30_encoding.md R113 and R116 -/

theorem test_decode_control : decode 0x00000000 = .ok (.nop 0) ∧ decode 0x03000000 = .ok (.reset 0) := by decide

theorem test_decode_session : decode 0x01000001 = .ok (.seed 1) ∧ decode 0x02000100 = .ok (.close 0x100) := by decide

theorem test_decode_table :
    decode 0x10040006 = .ok (.tblWrite 0x04 0 0 6) ∧ decode 0x10050200 = .ok (.tblWrite 0x05 1 0 0)
      ∧ decode 0x11000100 = .ok (.tblFill 0 0 1 0) ∧ decode 0x12000000 = .ok (.tblLock 0)
      ∧ decode 0x13040000 = .ok (.tblRead 0x04 0) := by decide

theorem test_decode_deframer :
    decode 0x200001AD = .ok (.rxPush 0 1 0xAD) ∧ decode 0x2101FFFF = .ok (.frRead 1 0xFFFF)
      ∧ decode 0x22000000 = .ok (.frPop 0) := by decide

theorem test_decode_framer :
    decode 0x30510002 = .ok (.txBegin 0x51 0 2) ∧ decode 0x30000007 = .ok (.txBegin 0 1 3)
      ∧ decode 0x31000000 = .ok (.txAbort 0) ∧ decode 0x32000000 = .ok (.bitMode 0)
      ∧ decode 0x33000000 = .ok (.byteMode 0) ∧ decode 0x34210001 = .ok (.wrBits 33 1) := by decide

theorem test_decode_writes :
    decode 0x3500017F = .ok (.wrByte 0 1 0x7F) ∧ decode 0x36001234 = .ok (.wrShortBe 0 0x1234)
      ∧ decode 0x37011234 = .ok (.wrShortLe 1 0x1234) ∧ decode 0x38000000 = .ok (.wrIntBe 0)
      ∧ decode 0x39000000 = .ok (.wrLongBe 0) ∧ decode 0x3A000000 = .ok (.wrPlaceholder 0) := by decide

theorem test_decode_transmit : decode 0x40000000 = .ok (.txSend 0) ∧ decode 0x41000000 = .ok (.txPop 0) := by decide

/-- The ends of the illegal ranges of 30_encoding.md R114. -/
theorem test_decode_illegal :
    [0x04#8, 0x0F#8, 0x14#8, 0x1F#8, 0x23#8, 0x2F#8, 0x3B#8, 0x3F#8, 0x42#8, 0xFF#8].all
      (fun op => decide (decode (op ++ 0#24) = .error (.illegal op))) = true := by decide

/-- The table's numbering: bit 0 is bit 0 of the one command word. -/
theorem test_decodeTableWord : decodeTableWord 32 0x30510002 = some (.txBegin 0x51 0 2) := by decide

/-! ## Control and session commands -/

/-- C1. -/
theorem test_nop : (after (.nop 0) live).result = 0 ∧ (after (.nop 1) live).result = 0x00000002
    ∧ (after (.nop 1) live).errLog = 0x4 := by decide

/-- C2. -/
theorem test_reset : (after (.reset 0) full).result = 0x00000300 ∧ statusWord (after (.reset 0) full) = 0
    ∧ (after (.tblRead 4 0) (after (.reset 0) full)).rval = 0 := by decide +kernel

/-- S1. -/
theorem test_seed_needs_lock : (after (.seed 0) State.reset).result = 0x00000106
    ∧ (after (.seed 0) State.reset).errLog = 0x40 := by decide

/-- W2. -/
theorem test_seed_words :
    (after (.seed 0) { booted with data0 := 0x7FFFFFFF, data1 := 0xFFFFFFFF, data2 := 0x80000000,
                                   data3 := 0xFFFFFFCE }).session
      = some ⟨.other ⟨0x7FFFFFFF, 0xFFFFFFFF, 0x80000000, 0xFFFFFFCE⟩ 0,
          .other ⟨0x80000031, 0x00000031, 0x80000032, 0⟩ 0⟩ := by decide

/-- S6. -/
theorem test_close : statusWord (after (.close 0) { building with frq := [frameW5] }) = 0x00000002
    ∧ txLevelWord (after (.close 0) queued) = 0 ∧ (after (.close 0x100) live).result = 0x00000202 := by decide

/-! ## Size table -/

/-- T1, T2. -/
theorem test_tblWrite : (after (.tblRead 4 0) (after (.tblWrite 4 0 0 6) State.reset)).rval = 0x206
    ∧ (after (.tblWrite 4 0 0 6) live).result = 0x00001005 := by decide +kernel

/-- T12. -/
theorem test_tblFill : (after (.tblRead 0xFF 0) (after (.tblFill 0 0 1 0) State.reset)).rval = 0x300
    ∧ (after (.tblFill 1 0 0 0) State.reset).result = 0x00001102 := by decide +kernel

/-- T8, T12. -/
theorem test_tblLock : (after (.tblLock 0) State.reset).result = 0x00001207
    ∧ (after (.tblLock 0) (after (.tblFill 0 0 1 0) State.reset)).tblLock = true := by decide +kernel

/-- T6, T11. -/
theorem test_tblRead : (after (.tblRead 0xB9 0) live).rval = 0x300 ∧ (after (.tblRead 0x04 0) live).rval = 0x202
    ∧ (after (.tblRead 0x00 0) live).rval = 0x200 ∧ (after (.tblRead 5 0) State.reset).rval = 0 := by decide +kernel

/-! ## Deframer -/

/-- The first bytes of W5, W6 and D4, and D7 with FRQ full. -/
theorem test_rxPush_opcode : (after (.rxPush 0 0 0xB1) live).rval = 0x402 ∧ (after (.rxPush 0 0 0x66) live).rval = 0xB902
    ∧ (after (.rxPush 0 0 0x00) live).rval = 0x5303 ∧ (after (.rxPush 0 0 0xAD) full).result = 0x00002011 := by
  decide +kernel

/-- The rest of D2 and of W6. -/
theorem test_rxPush_payload : frHeadWord (after (.rxPush 0 0 0x00) inLen) = 0x800000B9
    ∧ (after (.rxPush 0 0 0xCC) inPay).frq = [⟨0xB9, 2, [0xAA, 0xCC]⟩]
    ∧ dfStateWord (after (.rxPush 0 0 0xAA) { inLen with dfPhase := .pay, dfLen := 3 }) = 0x0103B902 := by
  decide +kernel

/-- P2, D9. -/
theorem test_frRead : (after (.frRead 0 1) full).rval = 0x22 ∧ (after (.frRead 0 2) full).result = 0x0000210C
    ∧ (after (.frRead 0 0) live).result = 0x0000210B := by decide

/-- D8, D10. -/
theorem test_frPop : frHeadWord full = 0x80000204 ∧ frHeadWord (after (.frPop 0) full) = 0
    ∧ (after (.frPop 0) live).result = 0x0000220B := by decide

/-! ## Framer -/

/-- P3 step 1, B11. -/
theorem test_txBegin : statusWord (after (.txBegin 0x51 0 2) live) = 0x00005127
    ∧ (after (.txBegin 0x21 0 0) building).result = 0x00003009 := by decide

/-- B8. -/
theorem test_txAbort : statusWord (after (.txAbort 0) building) = 0x00000003
    ∧ (after (.txAbort 0) live).result = 0x00003108 := by decide

/-- B10, B1. -/
theorem test_bitMode : (after (.bitMode 0) { building with txBytePos := 3 }).txBitPos = 24
    ∧ (after (.bitMode 0) inBits).result = 0x0000320A := by decide

/-- W10. -/
theorem test_byteMode : (after (.byteMode 0) { inBits with txBitPos := 10 }).txBytePos = 2
    ∧ (after (.byteMode 0) { inBits with txBitPos := 16 }).txBytePos = 2
    ∧ (after (.byteMode 0) { inBits with txBitPos := 18 }).txBytePos = 3 := by decide

/-- W3. -/
theorem test_wrBits :
    (after (.wrBits 8 0) { roomy with txBitMode := true, data0 := 0x1FF }).txBuf = [(0, 0xFF)]
      ∧ (after (.wrBits 7 0) { roomy with txBitMode := true, txBitPos := 3, txBuf := [(0, 0xA0)],
                                           data0 := 0x55 }).txBuf = [(0, 0xB5), (1, 0x40)]
      ∧ (after (.wrBits 32 0) { roomy with txBitMode := true, txBitPos := 4, data0 := 0xDEADBEEF }).txBuf
          = [(0, 0x0D), (1, 0xEA), (2, 0xDB), (3, 0xEE), (4, 0xF0)] := by decide +kernel

/-- B5, B9. -/
theorem test_wrBits_end :
    (after (.wrBits 3 0) { inBits with data0 := 0x0FFFFFFF }).txBuf = [(0, 0x7F), (1, 0xFF), (2, 0xFF), (3, 0xFF)]
      ∧ (after (.wrBits 4 0) inBits).result = 0x0000340D ∧ (after (.wrBits 33 0) inBits).result = 0x00003402 := by
  decide +kernel

/-- B4, B9. -/
theorem test_wrByte : (after (.wrByte 0 0 2) { building with txBytePos := 3 }).txBuf = [(0, 0x80), (3, 0x02)]
    ∧ (after (.wrByte 0 0 3) packed).result = 0x0000350D ∧ (after (.wrByte 0 0 1) inBits).result = 0x0000350A := by
  decide +kernel

/-- B7. -/
theorem test_wrShort : (after (.wrShortBe 0 0x1234) building).txBuf = [(0, 0x80), (1, 0x12), (2, 0x34)]
    ∧ (after (.wrShortLe 0 0x1234) building).txBuf = [(0, 0x80), (1, 0x34), (2, 0x12)] := by decide +kernel

/-- P3 step 8, B4. -/
theorem test_wrIntBe :
    (after (.wrIntBe 0) { roomy with data0 := 0xCAFEBABE }).txBuf = [(0, 0xCA), (1, 0xFE), (2, 0xBA), (3, 0xBE)]
      ∧ (after (.wrIntBe 0) building).result = 0x0000380D := by decide +kernel

/-- B7. -/
theorem test_wrLongBe :
    (after (.wrLongBe 0) { roomy with data1 := 0x11223344, data0 := 0x55667788 }).txBuf
      = [(0, 0x11), (1, 0x22), (2, 0x33), (3, 0x44), (4, 0x55), (5, 0x66), (6, 0x77), (7, 0x88)] := by decide +kernel

/-- P3 step 2, C6, C7. -/
theorem test_wrPlaceholder : statusWord (after (.wrPlaceholder 0) roomy) = 0x00015107
    ∧ (after (.wrPlaceholder 0) { building with ph := [0] }).result = 0x00003A0E
    ∧ (after (.wrPlaceholder 0) { packed with ph := [0] }).result = 0x00003A0D := by decide

/-! ## Transmit -/

/-- X5: two placeholders, VariableByte. -/
theorem test_txSend :
    (after (.txSend 0) { roomy with txMode := .varByte, ph := [0, 2], txBytePos := 5,
                                     txBuf := [(1, 0xAA), (3, 0xBB), (4, 0xCC)] }).txq.map TxEntry.byte
      = [0xA4, 0x05, 0xFC, 0xAA, 0xFE, 0xBB, 0xCC]
    ∧ (after (.txSend 0) { roomy with txMode := .varByte, txBytePos := 256 }).result = 0x0000400F := by decide +kernel

/-- The first message of X1, and C4. -/
theorem test_txSend_one : (after (.txSend 0) roomy).rval = 1 ∧ (after (.txPop 0) (after (.txSend 0) roomy)).rval = 0x3A4
    ∧ (after (.txSend 0) State.reset).result = 0x00004003 := by decide +kernel

/-- X7. -/
theorem test_txPop : (after (.txPop 0) queued).rval = 0x303 ∧ (after (.txPop 0) live).result = 0x0000410B := by decide

/-- TXDRAIN of X1's first message and one byte more: it ends on an empty TX FIFO, the last RVAL that of the last byte. -/
theorem test_txDrain :
    (match txDrain 0x1000 { queued with txq := [⟨0xA4, true, true⟩, ⟨0xB7, true, false⟩] } with
      | .next t => (t.txq, t.rval, t.resp)
      | .fault _ => ([], 0, .none)
      | .refused _ => ([], 0, .none)) = ([], 0x2B7, .readData 0) := by decide +kernel

/-! ## The port -/

/-- C9, C10, and a read of STATUS. -/
theorem test_reads : (accessed (.read 2 0x1004) live).resp = .busError ∧ (accessed (.read 4 0x1006) live).resp = .busError
    ∧ (accessed (.read 4 0x1080) live).resp = .readData 0 ∧ (accessed (.read 4 0x1004) live).resp = .readData 3 := by
  decide

/-- C8. -/
theorem test_w1c : (accessed (.write 4 0x1024 0x00000004) { live with errLog := 0x6 }).errLog = 0x2 := by decide

/-- P2 step 3: a frame raises the IRQ line while FRAME_EN is 1. -/
theorem test_irq : irqLine { full with irqEn := 7 } = true ∧ irqLine { full with irqEn := 6 } = false
    ∧ irqPendWord { full with errLog := 2 } = 0x5 ∧ irqRequest { full with irqEn := 7 } = some ⟨1, 42, 3⟩ := by decide

/-- C1: an illegal OP written to CMD. -/
theorem test_illegal : (accessed (.write 4 0x1008 0xFF000000) live).result = 0x0000FF01 := by decide

/-- The first command after reset. -/
theorem test_withFetchWord : stepped (State.reset.withFetchWord 32 0x03000000)
    = { State.reset with result := 0x00000300, resp := .written } := by decide +kernel

/-- The words of 30_encoding.md R116's examples, of T1 and of P1, from the text of the commands. -/
theorem test_assemble :
    (assemble "TX_BEGIN" [.num 0x51, .varShort]).map encode = some 0x30510002
      ∧ (assemble "RX_PUSH" [.num 0xAD]).map encode = some 0x200000AD
      ∧ (assemble "TBL_WRITE" [.num 0x04, .fixedLen 6]).map encode = some 0x10040006
      ∧ (assemble "TBL_WRITE" [.num 0xB9, .var]).map encode = some 0x10B90100
      ∧ (assemble "TX_SEND" []).map encode = some 0x40000000 ∧ assemble "RX_PUSH" [.num 256] = none := by decide +kernel

/-- W1: SEED64 of the §8 seeds is WRD D0 to D3, then SEED. -/
theorem test_seed64 : seed64 0 0x1122334455667788 0x99AABBCCDDEEFF00
    = [.access (.write 4 0x14 0x55667788), .access (.write 4 0x18 0x11223344), .access (.write 4 0x1C 0xDDEEFF00),
        .access (.write 4 0x20 0x99AABBCC), .access (.write 4 0x08 0x01000000)] := by decide

/-! ## The reference keystream -/

/-- 40_session_keystream.md R171, worked from the rule once and four times from eight golden-ratio words. -/
theorem test_isaacMix :
    let g : MixWords := ⟨goldenRatio, goldenRatio, goldenRatio, goldenRatio, goldenRatio, goldenRatio, goldenRatio,
      goldenRatio⟩
    isaacMix g = ⟨0x3F879D38, 0x0E56DEA4, 0x616A0F84, 0x7E4C685D, 0x41D767B9, 0x0B360CDB, 0xF273B188, 0x11273859⟩
      ∧ isaacMix (isaacMix (isaacMix (isaacMix g)))
        = ⟨0x1367DF5A, 0x95D90059, 0xC3163E4B, 0x0F421AD8, 0xD92A4A78, 0xA51A3C49, 0xC4EFEA1B, 0x30609119⟩ := by
  decide +kernel

/-- One step of 40_session_keystream.md R172, worked from the rule: aa = 7 + (1 xor 2^13), y = 3 + aa + 2, bb = mm[8] + 5. -/
theorem test_isaacStep :
    let mm := ((((Array256.fill 0).set 0 5).set 1 3).set 8 11).set 128 7
    let s := isaacStep ⟨mm, Array256.fill 0, 1, 2, 0, 0⟩ 0
    s.aa = 0x2008 ∧ s.mm.get 0 = 0x200D ∧ s.bb = 16 ∧ s.rsl.get 0 = 16 ∧ s.rsl.get 1 = 0 := by decide +kernel

/-- 40_session_keystream.md R174: words come from rsl in descending order. -/
theorem test_isaacNext :
    let k : KsState := .reference ⟨Array256.fill 0, ((Array256.fill 0).set 255 7).set 254 9, 0, 0, 0, 256⟩
    (ksNext k).2 = 7 ∧ (ksNext (ksNext k).1).2 = 9 := by decide +kernel

/-! ## States and operands that meet the hypotheses of the statements, clause by clause -/

theorem witness_EncodeOfDecode : decode 0x30510002 = .ok (.txBegin 0x51 0 2) := by decide

theorem witness_EveryWordIsCommandOrIllegal :
    (∀ op ∈ [0x04, 0x0F, 0x14, 0x1F, 0x23, 0x2F, 0x3B, 0x3F, 0x42, 0xFF], IllegalOp op)
      ∧ ∀ op ∈ [0x00, 0x03, 0x10, 0x13, 0x20, 0x22, 0x30, 0x3A, 0x40, 0x41], ¬ IllegalOp op := by
  unfold IllegalOp
  decide

theorem witness_ArgumentCheckIsTableRow :
    decode 0x34200000 = .ok (.wrBits 32 0) ∧ decode 0x34210000 = .ok (.wrBits 33 0)
      ∧ decode 0x10050105 = .ok (.tblWrite 5 0 1 5) ∧ decode 0x30000003 = .ok (.txBegin 0 0 3) := by decide

theorem witness_StepRunsDecodedCommand : decode 0x41000000 = .ok (.txPop 0) := by decide

theorem witness_IllegalCommandFails :
    IllegalOp ((0x04000000 : Word).extractLsb' 24 8).toNat ∧ IllegalOp ((0xFF000000 : Word).extractLsb' 24 8).toNat := by
  unfold IllegalOp
  decide

theorem witness_BadArgumentFails : (Instr.wrBits 33 0).wellFormed = false ∧ (Instr.txPop 1).wellFormed = false := by decide

theorem witness_FailureHasNoOtherEffect :
    exec (.frPop 0) live = .next (after (.frPop 0) live) ∧ (after (.frPop 0) live).code ≠ 0 := ⟨rfl, by decide⟩

/-- A state in which several causes hold, the lowest being NO_SESSION (C4), and one in which none does. -/
theorem witness_LowestCodeIsReported :
    exec (.txSend 0) State.reset = .next (after (.txSend 0) State.reset)
      ∧ (after (.txSend 0) State.reset).code = ErrorCode.noSession.code
      ∧ causeHolds (.txSend 0) State.reset .noSession ∧ causeHolds (.txSend 0) State.reset .notOpen
      ∧ exec (.nop 0) live = .next (after (.nop 0) live) ∧ (after (.nop 0) live).code = 0 := by
  refine ⟨rfl, by decide, ⟨by decide, rfl⟩, ⟨by decide, rfl⟩, rfl, by decide⟩

/-- An opcode byte, a payload byte, a message, a refused byte. -/
theorem witness_KeystreamsAdvanceOnlyAsStated :
    live.session = some firstWords ∧ exec (.rxPush 0 0 0xB1) live = .next (after (.rxPush 0 0 0xB1) live)
      ∧ (after (.rxPush 0 0 0xB1) live).session = some ⟨flatOnce 0xDE9994AD, flat 0x621E2353⟩
      ∧ (after (.rxPush 0 0 0xCC) inPay).session = some firstWords
      ∧ (after (.txSend 0) roomy).session = some ⟨flat 0xDE9994AD, flatOnce 0x621E2353⟩
      ∧ (after (.rxPush 0 0 0xAD) full).session = some firstWords := by
  refine ⟨rfl, rfl, ?_, ?_, ?_, ?_⟩ <;> decide +kernel

/-- Writes that are no command: an illegal OP, another register, a narrow write at CMD. -/
theorem witness_KeystreamsAdvanceOnlyAsStated_writes :
    ¬ ((4 : Nat) = 4 ∧ (0x1008 : Nat) = live.cfg.kfbBase + 0x08 ∧ ∃ i, decode 0x05000000 = .ok i)
      ∧ ¬ ((4 : Nat) = 4 ∧ (0x1024 : Nat) = live.cfg.kfbBase + 0x08 ∧ ∃ i, decode 0 = .ok i)
      ∧ ¬ ((2 : Nat) = 4 ∧ (0x1008 : Nat) = live.cfg.kfbBase + 0x08 ∧ ∃ i, decode 0 = .ok i) := by
  refine ⟨?_, fun h => absurd h.2.1 (by decide), fun h => absurd h.1 (by decide)⟩
  rintro ⟨-, -, i, h⟩
  have e : decode 0x05000000 = .error (.illegal 0x05) := by decide
  rw [e] at h
  cases h

theorem witness_SessionChangesOnlyBySeedCloseReset :
    (booted.session = none ∧ (after (.seed 0) booted).session ≠ none)
      ∧ (live.session ≠ none ∧ (after (.close 0) live).session = none)
      ∧ (after (.reset 0) live).session = none := by decide +kernel

theorem witness_LockFreezesTable :
    (live.tblLock = true ∧ (Instr.tblWrite 4 0 0 6).wellFormed = true ∧ (Instr.tblFill 0 0 1 0).wellFormed = true)
      ∧ (Instr.nop 0).opCode ≠ 0x03
      ∧ (let s : State := { booted with tblLock := false };
        s.tblLock = false ∧ (after (.tblLock 0) s).tblLock = true) := by decide +kernel

/-- Every entry of `bootTable` is valid, and a variable one has LEN = 0. -/
theorem bootTable_entries (i : Byte) : (bootTable.get i).valid = true ∧ ((bootTable.get i).var = true →
    (bootTable.get i).len = 0) := by
  revert i
  decide +kernel

/-- The invariant in a state with a session, a frame in progress, a frame and a message waiting, a builder open. -/
theorem witness_InvariantKeptByEveryStep :
    let s : State :=
      { building with
        dfPhase := .pay, dfOpc := 0xB9, dfLen := 2, dfCnt := 1, dfBuf := [(0, 0xAA)], frq := [frameW5], ph := [0],
        txq := [⟨0x03, true, true⟩], result := 0x00003500, errLog := 0x20002, irqEn := 7,
        port := [.access (.write 4 0x1008 0x200000CC)] }
    s.Inv ∧ step s = .next (stepped s) := by
  refine ⟨?_, rfl⟩
  constructor
  case cfg_legal => exact small_legal
  case locked_valid => exact fun _ i => (bootTable_entries i).1
  case variable_len => exact fun i => (bootTable_entries i).2
  case ph_written => exact List.forall_mem_singleton.mpr (by decide)
  all_goals decide

/-- The invariant while RST is asserted. -/
theorem witness_InvariantKeptByEveryStep_rst : ({ State.reset with rst := true } : State).Inv := by
  constructor
  case cfg_legal => exact default_legal
  case locked_valid => exact fun h => absurd h (by decide)
  case variable_len => decide +kernel
  case rst_holds => exact fun _ => rfl
  case ph_written => exact fun _ hp => absurd hp List.not_mem_nil
  all_goals decide

theorem witness_UnwrittenBitsStayZero : building.Inv ∧ building.UnwrittenZero ∧ building.txOpen = true
    ∧ step building = .next (stepped building) := by
  refine ⟨?_, ?_, rfl, rfl⟩
  · constructor
    case cfg_legal => exact small_legal
    case locked_valid => exact fun _ i => (bootTable_entries i).1
    case variable_len => exact fun i => (bootTable_entries i).2
    case ph_written => exact fun _ hp => absurd hp List.not_mem_nil
    all_goals decide
  · intro _ p hp
    have h : 8 ≤ p := hp
    have e : 0 ≠ p / 8 := by omega
    simp [Memory.readBit, building, Memory.read, e]

/-! ### Control, session and table commands -/

theorem witness_NopRule : (1 : BitVec 24) ≠ 0 ∧ (0 : BitVec 24) = 0 := by decide

theorem witness_ResetRule : (0x800000 : BitVec 24) ≠ 0 := by decide

theorem witness_SeedRule : (1 : BitVec 24) ≠ 0 ∧ live.session ≠ none
    ∧ (State.reset.session = none ∧ State.reset.tblLock = false) ∧ booted.session = none ∧ booted.tblLock = true := by
  decide +kernel

theorem witness_CloseRule : (0x100 : BitVec 24) ≠ 0 ∧ (0 : BitVec 24) = 0 := by decide

theorem witness_TblWriteRule :
    ((1 : BitVec 7) ≠ 0 ∨ (0 : BitVec 1) = 1 ∧ (0 : Byte) ≠ 0) ∧ ((1 : BitVec 1) = 1 ∧ (1 : Byte) ≠ 0)
      ∧ ¬ ((1 : BitVec 1) = 1 ∧ (0 : Byte) ≠ 0) ∧ ¬ ((0 : BitVec 1) = 1 ∧ (0xFF : Byte) ≠ 0) ∧ live.tblLock = true
      ∧ State.reset.tblLock = false ∧ (0xFF : Byte) ≠ 0xFE := by decide

theorem witness_TblFillRule :
    ((0x80 : Byte) ≠ 0) ∧ ((0x40 : BitVec 7) ≠ 0) ∧ ((1 : BitVec 1) = 1 ∧ (0xFF : Byte) ≠ 0)
      ∧ ¬ ((1 : BitVec 1) = 1 ∧ (0 : Byte) ≠ 0) ∧ live.tblLock = true ∧ State.reset.tblLock = false := by decide

theorem witness_TblLockRule : (1 : BitVec 24) ≠ 0
    ∧ (State.reset.tblLock = false ∧ ∃ k, (State.reset.table.get k).valid = false) ∧ live.tblLock = true
    ∧ ∀ k, (booted.table.get k).valid = true :=
  ⟨by decide, ⟨rfl, 0xFF, rfl⟩, rfl, fun k => (bootTable_entries k).1⟩

theorem witness_TblReadRule : (1 : Half) ≠ 0 ∧ (live.table.get 0xFF).valid = true
    ∧ (State.reset.table.get 0xFF).valid = false := by decide +kernel

/-! ### Deframer -/

/-- The four ends of an opcode byte: 0x00, FIXED 0 with FRQ full and not; 0xB9, VAR; 0x04, FIXED 2. -/
theorem witness_RxPushRule_opcode :
    let plain (b : Byte) : Byte := b - (ksNext firstWords.dec).2.setWidth 8
    (full.session = some firstWords ∧ full.dfPhase = .opc ∧ live.session = some firstWords ∧ live.dfPhase = .opc)
      ∧ ((live.table.get (plain 0xAD)).var = false ∧ (live.table.get (plain 0xAD)).len = 0)
      ∧ full.frq.length = full.cfg.frDepth ∧ live.frq.length ≠ live.cfg.frDepth
      ∧ (live.table.get (plain 0x66)).var = true
      ∧ ((live.table.get (plain 0xB1)).var = false ∧ (live.table.get (plain 0xB1)).len ≠ 0) := by decide +kernel

theorem witness_RxPushRule_rest :
    ((1 : Byte) ≠ 0 ∨ (0 : Byte) ≠ 0) ∧ booted.session = none
      ∧ (inLen.session ≠ none ∧ inLen.dfPhase = .len ∧ inLen.frq.length ≠ inLen.cfg.frDepth)
      ∧ (let s : State := { inLen with frq := [frameW5] };
        s.session ≠ none ∧ s.dfPhase = .len ∧ s.frq.length = s.cfg.frDepth)
      ∧ (inPay.session ≠ none ∧ inPay.dfPhase = .pay ∧ inPay.dfBuf.wf = true
        ∧ inPay.dfCnt.toNat + 1 = inPay.dfLen.toNat ∧ inPay.frq.length ≠ inPay.cfg.frDepth)
      ∧ (let s : State := { inPay with frq := [frameW5] };
        s.dfCnt.toNat + 1 = s.dfLen.toNat ∧ s.frq.length = s.cfg.frDepth)
      ∧ (let s : State := { inPay with dfLen := 255 };
        s.session ≠ none ∧ s.dfPhase = .pay ∧ s.dfBuf.wf = true ∧ s.dfCnt.toNat + 1 ≠ s.dfLen.toNat) := by
  decide +kernel

theorem witness_LengthByteIsNotMasked :
    inLen.session ≠ none ∧ inLen.dfPhase = .len ∧ inLen.frq.length ≠ inLen.cfg.frDepth
      ∧ exec (.rxPush 0 0 0) inLen = .next (after (.rxPush 0 0 0) inLen)
      ∧ exec (.rxPush 0 0 0xFF) inLen = .next (after (.rxPush 0 0 0xFF) inLen) := by
  refine ⟨by decide +kernel, rfl, by decide, rfl, rfl⟩

/-- A fixed frame, a variable one, and a variable one that the bytes end in. -/
theorem witness_DeframerComputesDeframe :
    let s : State := { live with cfg := Params.default }
    let bytes : List Byte := [0xB1, 0x11, 0x22, 0x66, 0x01, 0xAA, 0x66, 0x02, 0xBB]
    s.session = some firstWords ∧ s.dfPhase = .opc ∧ s.dfBuf.wf = true
      ∧ s.frq.length + (deframe s.table bytes.length firstWords.dec bytes).1.length ≤ s.cfg.frDepth
      ∧ (deframe s.table bytes.length firstWords.dec bytes).1 = [frameW5, ⟨0xB9, 1, [0xAA]⟩]
      ∧ (deframe s.table bytes.length firstWords.dec bytes).2.2 = .pay := by decide +kernel

theorem witness_FrReadRule : (1 : Byte) ≠ 0 ∧ live.frq = [] ∧ full.frq = [frameW5]
    ∧ frameW5.len.toNat ≤ (2 : Half).toNat ∧ (1 : Half).toNat < frameW5.payload.length
    ∧ (1 : Half).toNat < frameW5.len.toNat := by decide

theorem witness_FrPopRule : (1 : BitVec 24) ≠ 0 ∧ live.frq = [] ∧ full.frq = frameW5 :: [] := by decide

/-! ### Framer -/

theorem witness_TxBeginRule : (1 : BitVec 14) ≠ 0 ∧ (3 : BitVec 2) = 3 ∧ (2 : BitVec 2) ≠ 3 ∧ building.txOpen = true
    ∧ live.txOpen = false := by decide

theorem witness_TxAbortRule : (1 : BitVec 24) ≠ 0 ∧ live.txOpen = false ∧ building.txOpen = true := by decide

theorem witness_BitModeRule : (1 : BitVec 24) ≠ 0 ∧ live.txOpen = false
    ∧ (inBits.txOpen = true ∧ inBits.txBitMode = true) ∧ packed.txOpen = true ∧ packed.txBitMode = false := by decide

theorem witness_ByteModeRule : (1 : BitVec 24) ≠ 0 ∧ live.txOpen = false
    ∧ (building.txOpen = true ∧ building.txBitMode = false)
    ∧ (let s : State := { inBits with txBitPos := 32 };
      s.txOpen = true ∧ s.txBitMode = true ∧ s.cfg.Legal ∧ s.txBitPos.toNat ≤ 8 * s.cfg.txCap) :=
  ⟨by decide, by decide, by decide, rfl, rfl, small_legal, by decide⟩

/-- WR_BITS at the end of TX_BUF: 3 bits fit, 4 do not. -/
theorem witness_WrBitsRule :
    (inBits.cfg.Legal ∧ inBits.txBuf.wf = true)
      ∧ ((1 : Half) ≠ 0 ∧ (0 : Byte) = 0 ∧ 32 < (33 : Byte).toNat ∧ 1 ≤ (1 : Byte).toNat ∧ (32 : Byte).toNat ≤ 32)
      ∧ live.txOpen = false ∧ (building.txOpen = true ∧ building.txBitMode = false)
      ∧ (inBits.txOpen = true ∧ inBits.txBitMode = true)
      ∧ 8 * inBits.cfg.txCap < inBits.txBitPos.toNat + (4 : Byte).toNat
      ∧ inBits.txBitPos.toNat + (3 : Byte).toNat ≤ 8 * inBits.cfg.txCap :=
  ⟨⟨small_legal, by decide⟩, by decide, by decide, by decide, by decide, by decide, by decide⟩

theorem witness_BitWriterLaw :
    inBits.cfg.Legal ∧ inBits.txBuf.wf = true ∧ inBits.txOpen = true ∧ inBits.txBitMode = true
      ∧ 1 ≤ (3 : Byte).toNat ∧ (3 : Byte).toNat ≤ 32 ∧ inBits.txBitPos.toNat + (3 : Byte).toNat ≤ 8 * inBits.cfg.txCap :=
  ⟨small_legal, by decide, by decide, by decide, by decide, by decide, by decide⟩

/-- The byte writes' clauses: closed, bit mode, full, and the last byte that fits. -/
theorem witness_AppendsBytes :
    (building.cfg.Legal ∧ building.txBuf.wf = true) ∧ live.txOpen = false
      ∧ (inBits.txOpen = true ∧ inBits.txBitMode = true)
      ∧ (packed.txOpen = true ∧ packed.txBitMode = false ∧ packed.cfg.txCap < packed.txBytePos.toNat + 1)
      ∧ (let s : State := { building with txBytePos := 3 };
        s.txOpen = true ∧ s.txBitMode = false ∧ s.txBytePos.toNat + 1 ≤ s.cfg.txCap) :=
  ⟨⟨small_legal, by decide⟩, by decide, by decide, by decide, by decide⟩

theorem witness_WrByteRule : ((1 : Byte) ≠ 0 ∨ (0 : Byte) ≠ 0) ∧ building.cfg.Legal ∧ building.txBuf.wf = true :=
  ⟨by decide, small_legal, by decide⟩

theorem witness_WrShortRules : (1 : Byte) ≠ 0 ∧ building.cfg.Legal ∧ building.txBuf.wf = true
    ∧ building.txBytePos.toNat + 2 ≤ building.cfg.txCap := ⟨by decide, small_legal, by decide, by decide⟩

theorem witness_WrIntWrLongRules : (1 : BitVec 24) ≠ 0 ∧ roomy.cfg.Legal ∧ roomy.txBuf.wf = true
    ∧ roomy.data1 = (0 : Byte) ++ (0 : Byte) ++ (0 : Byte) ++ (0 : Byte)
    ∧ roomy.data0 = (0 : Byte) ++ (0 : Byte) ++ (0 : Byte) ++ (0 : Byte)
    ∧ roomy.txBytePos.toNat + 8 ≤ roomy.cfg.txCap := ⟨by decide, default_legal, by decide, by decide, by decide, by decide⟩

theorem witness_WrPlaceholderRule :
    (building.cfg.Legal ∧ building.txBuf.wf = true) ∧ (1 : BitVec 24) ≠ 0 ∧ live.txOpen = false
      ∧ (inBits.txOpen = true ∧ inBits.txBitMode = true)
      ∧ (packed.txOpen = true ∧ packed.txBitMode = false ∧ packed.cfg.txCap < packed.txBytePos.toNat + 1)
      ∧ (let s : State := { building with txBytePos := 3, ph := [0] };
        s.txOpen = true ∧ s.txBitMode = false ∧ s.txBytePos.toNat + 1 ≤ s.cfg.txCap ∧ s.ph.length = s.cfg.maxPh)
      ∧ (let s : State := { building with txBytePos := 3 };
        s.txBytePos.toNat + 1 ≤ s.cfg.txCap ∧ s.ph.length ≠ s.cfg.maxPh) :=
  ⟨⟨small_legal, by decide⟩, by decide, by decide, by decide, by decide, by decide, by decide⟩

/-! ### Transmit -/

/-- TX_SEND, the first four checks. -/
theorem witness_TxSendRule_state :
    (1 : BitVec 24) ≠ 0 ∧ booted.session = none ∧ (live.session ≠ none ∧ live.txOpen = false)
      ∧ (inBits.session ≠ none ∧ inBits.txOpen = true ∧ inBits.txBitMode = true) := by decide +kernel

/-- TX_SEND: a payload and a placeholder count of 256. -/
theorem witness_TxSendRule_long :
    (let s : State := { roomy with txMode := .varByte, txBytePos := 256 };
      s.session ≠ none ∧ s.txOpen = true ∧ s.txBitMode = false ∧ s.txMode = .varByte ∧ 255 < s.txBytePos.toNat)
    ∧ (let s : State := { roomy with ph := [0], txBytePos := 257 };
      s.session ≠ none ∧ s.txOpen = true ∧ s.txBitMode = false
        ∧ ∃ p ∈ s.ph, 255 < s.txBytePos.toNat - p.toNat - 1) :=
  ⟨by decide +kernel, by decide +kernel, rfl, rfl, 0, List.mem_singleton.mpr rfl, by decide⟩

/-- TX_SEND: a TX FIFO one byte short, and one just large enough. -/
theorem witness_TxSendRule_room :
    (let s : State := { packed with txq := [⟨0x03, true, true⟩] };
      s.session ≠ none ∧ s.txOpen = true ∧ s.txBitMode = false ∧ ¬ (s.txMode = .varByte ∧ 255 < s.txBytePos.toNat)
        ∧ s.ph = [] ∧ s.cfg.txfBytes < s.txq.length + 1 + s.txMode.prefixBytes + s.txBytePos.toNat)
    ∧ packed.session = some firstWords ∧ packed.txOpen = true ∧ packed.txBitMode = false
    ∧ ¬ (packed.txMode = .varByte ∧ 255 < packed.txBytePos.toNat) ∧ packed.ph = []
    ∧ packed.txq.length + 1 + packed.txMode.prefixBytes + packed.txBytePos.toNat ≤ packed.cfg.txfBytes := by
  decide +kernel

/-- TX_SEND: a placeholder count of 255. -/
theorem witness_TxSendRule_placeholder :
    let s : State := { roomy with ph := [0], txBytePos := 256, txMode := .varShort }
    s.session = some firstWords ∧ s.txOpen = true ∧ s.txBitMode = false
      ∧ ¬ (s.txMode = .varByte ∧ 255 < s.txBytePos.toNat) ∧ (∀ p ∈ s.ph, s.txBytePos.toNat - p.toNat - 1 ≤ 255)
      ∧ s.txq.length + 1 + s.txMode.prefixBytes + s.txBytePos.toNat ≤ s.cfg.txfBytes :=
  ⟨rfl, rfl, rfl, by decide, List.forall_mem_singleton.mpr (by decide), by decide⟩

theorem witness_PlaceholderBackfill :
    let s : State := { roomy with ph := [0, 2], txBytePos := 5, txMode := .varByte }
    exec (.txSend 0) s = .next (after (.txSend 0) s) ∧ (after (.txSend 0) s).code = 0 ∧ (2 : BitVec 16) ∈ s.ph
      ∧ (2 : BitVec 16).toNat < s.txBytePos.toNat := by
  refine ⟨rfl, by decide +kernel, by decide, by decide⟩

theorem witness_FramingPrefixRoundTrip :
    (let s : State := { roomy with txMode := .varByte, txBytePos := 255 };
      exec (.txSend 0) s = .next (after (.txSend 0) s) ∧ (after (.txSend 0) s).code = 0 ∧ s.txMode = .varByte)
    ∧ (let s : State := { roomy with txMode := .varShort, txBytePos := 256 };
      exec (.txSend 0) s = .next (after (.txSend 0) s) ∧ (after (.txSend 0) s).code = 0 ∧ s.txMode = .varShort) := by
  refine ⟨⟨rfl, by decide +kernel, rfl⟩, rfl, by decide +kernel, rfl⟩

theorem witness_TxPopRule : (1 : BitVec 24) ≠ 0 ∧ live.txq = [] ∧ queued.txq = ⟨0x03, true, true⟩ :: [] := by decide

theorem witness_TxPopDrainsInOrder : 1 ≤ queued.txq.length := by decide

theorem witness_TxDrainEmptiesFifo : (queued.rst = false ∧ queued.txq.length < 2 ^ 24)
    ∧ live.rst = false ∧ live.txq.length < 2 ^ 24 := by decide

/-! ### Registers, interrupts, the port -/

theorem witness_NoAutonomousStep : live.port = [] ∧ live.rst = false := by decide

theorem witness_ReadChangesNothing : (0xFC % 4 = 0 ∧ 0xFC < 0x100) ∧ 0x04 % 4 = 0 := by decide

theorem witness_StatusFields : building.ph.length ≤ 15 ∧ full.frq.length ≤ 255 := by decide

theorem witness_ComputedRegisterFields : live.frq = [] ∧ full.frq = frameW5 :: [] ∧ queued.txq.length < 2 ^ 24 := by decide

theorem witness_ConstantOffsetsRead : ∀ offset ∈ [0x44, 0xFC], 0x44 ≤ offset ∧ offset % 4 = 0 ∧ offset < 0x100 := by decide

theorem witness_IrqRequestFollowsRoute : irqLine { full with irqEn := 1 } = true ∧ irqLine full = false
    ∧ exec (.nop 0) live = .next (after (.nop 0) live) := ⟨by decide, by decide, rfl⟩

theorem witness_ReadOnlyOffsetsIgnoreWrites : ∀ offset ∈ [0x00, 0x0C, 0x2C, 0x40, 0x44, 0xFC],
    offset % 4 = 0 ∧ offset < 0x100 ∧ offset ∉ [0x08, 0x14, 0x18, 0x1C, 0x20, 0x24, 0x28] := by decide

theorem witness_BusErrorChangesNothing : (2 : Nat) ≠ 4 ∧ 0x06 % 4 ≠ 0 ∧ 0x100 ≤ 0x100 := by decide

/-- RST is asserted with an access waiting; held with nothing waiting, with and without the reset values; held with an
access waiting; deasserted; deasserted with an access waiting. -/
theorem witness_RstResetsAndHolds :
    (let s : State := { full with port := [.rst true, .access (.write 4 0x1014 7)] };
      s.port = .rst true :: [.access (.write 4 0x1014 7)])
    ∧ (let s : State := { full with rst := true };
      s.rst = true ∧ s.port = [])
    ∧ (let s : State := { State.reset with rst := true };
      s.rst = true ∧ s.port = [] ∧ hardReset s = s)
    ∧ (let s : State := { State.reset with rst := true, port := [.access (.read 4 0)] };
      hardReset s = s ∧ s.rst = true ∧ s.port = .access (.read 4 0) :: [])
    ∧ (let s : State := { State.reset with rst := true, port := [.rst false] };
      s.port = .rst false :: [])
    ∧ (let s : State := { State.reset with rst := true, port := [.rst false, .access (.read 4 0)] };
      s.port = .rst false :: .access (.read 4 0) :: []) :=
  ⟨rfl, ⟨rfl, rfl⟩, ⟨rfl, rfl, rfl⟩, ⟨rfl, rfl, rfl⟩, rfl, rfl⟩

end Sys2Proof.Tests
end

section
/-! SUPPORT. The register window read field by field, and the values right after a reset (10_state.md sections 6 and 7). -/
namespace Sys2Proof.Machine

/-! ## Reading a register at its offset -/

@[simp] theorem regAt_offset (r : Reg) : regAt r.offset = some r := by
  cases r <;> rfl

/-- A register's offset reads as that register (10_state.md section 6). -/
theorem readOffset_offset (r : Reg) (s : State) : readOffset r.offset s = readReg r s := by
  simp [readOffset]

@[simp] theorem readOffset_id (s : State) : readOffset 0x00 s = idWord := readOffset_offset .id s
@[simp] theorem readOffset_status (s : State) : readOffset 0x04 s = statusWord s := readOffset_offset .status s
@[simp] theorem readOffset_irqPend (s : State) : readOffset 0x2C s = irqPendWord s := readOffset_offset .irqPend s
@[simp] theorem readOffset_frHead (s : State) : readOffset 0x30 s = frHeadWord s := readOffset_offset .frHead s
@[simp] theorem readOffset_dfState (s : State) : readOffset 0x34 s = dfStateWord s := readOffset_offset .dfState s
@[simp] theorem readOffset_txBytePos (s : State) : readOffset 0x38 s = txBytePosWord s := readOffset_offset .txBytePos s
@[simp] theorem readOffset_txBitPos (s : State) : readOffset 0x3C s = txBitPosWord s := readOffset_offset .txBitPos s
@[simp] theorem readOffset_txLevel (s : State) : readOffset 0x40 s = txLevelWord s := readOffset_offset .txLevel s

/-! ## STATUS (10_state.md R42) -/

section StatusWord
open BitVec

theorem statusWord_session (s : State) : (statusWord s).getLsbD 0 = s.session.isSome := by
  simp only [statusWord, getLsbD_append]
  simp

theorem statusWord_tblLock (s : State) : (statusWord s).getLsbD 1 = s.tblLock := by
  simp only [statusWord, getLsbD_append]
  simp

theorem statusWord_txOpen (s : State) : (statusWord s).getLsbD 2 = s.txOpen := by
  simp only [statusWord, getLsbD_append]
  simp

theorem statusWord_txBitMode (s : State) : (statusWord s).getLsbD 3 = s.txBitMode := by
  simp only [statusWord, getLsbD_append]
  simp

theorem statusWord_txMode (s : State) : (statusWord s).extractLsb' 4 2 = s.txMode.bits := by
  simp (disch := decide) only [statusWord, extractLsb'_append_eq_of_le]
  exact extractLsb'_append_eq_right

theorem statusWord_dfPhase (s : State) : (statusWord s).extractLsb' 6 2 = s.dfPhase.bits := by
  simp (disch := decide) only [statusWord, extractLsb'_append_eq_of_le]
  exact extractLsb'_append_eq_right

theorem statusWord_txOpcode (s : State) : (statusWord s).extractLsb' 8 8 = s.txOpcode := by
  simp (disch := decide) only [statusWord, extractLsb'_append_eq_of_le]
  exact extractLsb'_append_eq_right

/-- PH_COUNT: the number of placeholders, in 4 bits. -/
theorem statusWord_phCount (s : State) : (statusWord s).extractLsb' 16 4 = BitVec.ofNat 4 s.ph.length := by
  simp (disch := decide) only [statusWord, extractLsb'_append_eq_of_le]
  exact extractLsb'_append_eq_right

/-- FR_COUNT: the number of frames in FRQ, in 8 bits. -/
theorem statusWord_frCount (s : State) : (statusWord s).extractLsb' 20 8 = BitVec.ofNat 8 s.frq.length := by
  simp (disch := decide) only [statusWord, extractLsb'_append_eq_of_le]
  exact extractLsb'_append_eq_right

theorem statusWord_reserved (s : State) : (statusWord s).extractLsb' 28 4 = 0 := by
  simp (disch := decide) only [statusWord, extractLsb'_append_eq_of_le]
  exact extractLsb'_eq_self

end StatusWord

/-! ## FR_HEAD, DF_STATE, the cursors and TX_LEVEL (10_state.md R50 to R54) -/

section ComputedWords
open BitVec

theorem frHeadWord_nil {s : State} (h : s.frq = []) : frHeadWord s = 0 := by
  simp [frHeadWord, h]

theorem frHeadWord_cons {s : State} {f : Frame} {rest : List Frame} (h : s.frq = f :: rest) :
    frHeadWord s = 1#1 ++ 0#15 ++ f.len ++ f.opc := by
  simp [frHeadWord, h]

/-- Of a non-empty FRQ, FR_HEAD shows VALID and the head frame's length and opcode. -/
theorem frHeadWord_fields {s : State} {f : Frame} {rest : List Frame} (h : s.frq = f :: rest) :
    (frHeadWord s).getLsbD 31 = true ∧ (frHeadWord s).extractLsb' 16 15 = 0
    ∧ (frHeadWord s).extractLsb' 8 8 = f.len ∧ (frHeadWord s).extractLsb' 0 8 = f.opc := by
  rw [frHeadWord_cons h]
  refine ⟨?valid, ?zero, ?len, extractLsb'_append_eq_right⟩
  case valid =>
    simp only [getLsbD_append]
    simp
  all_goals
    simp (disch := decide) only [extractLsb'_append_eq_of_le]
    exact extractLsb'_append_eq_right

theorem dfStateWord_phase (s : State) : (dfStateWord s).extractLsb' 0 2 = s.dfPhase.bits :=
  extractLsb'_append_eq_right

theorem dfStateWord_reserved (s : State) : (dfStateWord s).extractLsb' 2 6 = 0 := by
  simp (disch := decide) only [dfStateWord, extractLsb'_append_eq_of_le]
  exact extractLsb'_append_eq_right

theorem dfStateWord_opc (s : State) : (dfStateWord s).extractLsb' 8 8 = s.dfOpc := by
  simp (disch := decide) only [dfStateWord, extractLsb'_append_eq_of_le]
  exact extractLsb'_append_eq_right

theorem dfStateWord_len (s : State) : (dfStateWord s).extractLsb' 16 8 = s.dfLen := by
  simp (disch := decide) only [dfStateWord, extractLsb'_append_eq_of_le]
  exact extractLsb'_append_eq_right

theorem dfStateWord_cnt (s : State) : (dfStateWord s).extractLsb' 24 8 = s.dfCnt := by
  simp (disch := decide) only [dfStateWord, extractLsb'_append_eq_of_le]
  exact extractLsb'_eq_self

theorem txBytePosWord_toNat (s : State) : (txBytePosWord s).toNat = s.txBytePos.toNat := by
  simp only [txBytePosWord, toNat_append]
  simp

theorem txBitPosWord_toNat (s : State) : (txBitPosWord s).toNat = s.txBitPos.toNat := by
  simp only [txBitPosWord, toNat_append]
  simp

theorem txLevelWord_toNat {s : State} (h : s.txq.length < 2 ^ 24) : (txLevelWord s).toNat = s.txq.length := by
  simp only [txLevelWord, toNat_append]
  simpa using h

end ComputedWords

/-! ## Reset (10_state.md R56) -/

/-- The reset state is what a reset makes of itself, so `hardReset_hasResetValues` speaks of it too. -/
theorem reset_hasResetValues : State.reset.HasResetValues :=
  hardReset_hasResetValues State.reset

namespace State.HasResetValues
variable {t : State}

theorem statusWord_eq_zero (h : t.HasResetValues) : statusWord t = 0 := by
  obtain ⟨hphase, -, -, -⟩ := h.deframer
  obtain ⟨hopen, hopcode, hmode, hbitMode, -, -⟩ := h.builder
  simp [statusWord, h.session, h.tblLock, h.frq, h.ph, hphase, hopen, hopcode, hmode, hbitMode, Phase.bits,
    TxMode.bits]

theorem irqPendWord_eq_zero (h : t.HasResetValues) : irqPendWord t = 0 := by
  simp [irqPendWord, h.errLog, h.txq, h.frq]

theorem dfStateWord_eq_zero (h : t.HasResetValues) : dfStateWord t = 0 := by
  obtain ⟨hphase, hopc, hlen, hcnt⟩ := h.deframer
  simp [dfStateWord, hphase, hopc, hlen, hcnt, Phase.bits]

theorem txBytePosWord_eq_zero (h : t.HasResetValues) : txBytePosWord t = 0 := by
  obtain ⟨-, -, -, -, hbytePos, -⟩ := h.builder
  simp [txBytePosWord, hbytePos]

theorem txBitPosWord_eq_zero (h : t.HasResetValues) : txBitPosWord t = 0 := by
  obtain ⟨-, -, -, -, -, hbitPos⟩ := h.builder
  simp [txBitPosWord, hbitPos]

theorem txLevelWord_eq_zero (h : t.HasResetValues) : txLevelWord t = 0 := by
  simp [txLevelWord, h.txq]

/-- Every computed register reads 0 right after a reset. -/
theorem readOffset_eq_zero (h : t.HasResetValues) {offset : Nat}
    (ho : offset ∈ [0x04, 0x2C, 0x30, 0x34, 0x38, 0x3C, 0x40]) : readOffset offset t = 0 := by
  simp only [List.mem_cons, List.not_mem_nil, or_false] at ho
  rcases ho with rfl | rfl | rfl | rfl | rfl | rfl | rfl
  · exact (readOffset_status t).trans h.statusWord_eq_zero
  · exact (readOffset_irqPend t).trans h.irqPendWord_eq_zero
  · exact (readOffset_frHead t).trans (frHeadWord_nil h.frq)
  · exact (readOffset_dfState t).trans h.dfStateWord_eq_zero
  · exact (readOffset_txBytePos t).trans h.txBytePosWord_eq_zero
  · exact (readOffset_txBitPos t).trans h.txBitPosWord_eq_zero
  · exact (readOffset_txLevel t).trans h.txLevelWord_eq_zero

/-- No cause is enabled right after a reset, so the IRQ line is deasserted (60_exceptions.md R351). -/
theorem irqLine_eq_false (h : t.HasResetValues) : irqLine t = false := by
  simp [irqLine, h.irqEn]

end State.HasResetValues

/-! ## The statements -/

/-- Settles O49: each field is the part of STATUS's concatenation that stands at its bits, and a count that fits its
field is not truncated. -/
theorem statusFields : Obligations.StatusFields := by
  intro s
  simp only [readOffset_status]
  refine ⟨statusWord_session s, statusWord_tblLock s, statusWord_txOpen s, statusWord_txBitMode s, statusWord_txMode s,
    statusWord_dfPhase s, statusWord_txOpcode s, fun hph => ?phCount, fun hfrq => ?frCount, statusWord_reserved s,
    reset_hasResetValues.statusWord_eq_zero⟩
  case phCount =>
    rw [statusWord_phCount, BitVec.toNat_ofNat]
    omega
  case frCount =>
    rw [statusWord_frCount, BitVec.toNat_ofNat]
    omega

/-- Settles O50, field by field of the five registers; the reset values are those of any state just reset. -/
theorem computedRegisterFields : Obligations.ComputedRegisterFields := by
  intro s
  have hreset := reset_hasResetValues
  simp only [readOffset_frHead, readOffset_dfState, readOffset_txBytePos, readOffset_txBitPos, readOffset_txLevel]
  exact ⟨frHeadWord_nil, fun _ _ => frHeadWord_fields,
    dfStateWord_phase s, dfStateWord_reserved s, dfStateWord_opc s, dfStateWord_len s, dfStateWord_cnt s,
    txBytePosWord_toNat s, txBitPosWord_toNat s, txLevelWord_toNat,
    frHeadWord_nil hreset.frq, hreset.dfStateWord_eq_zero, hreset.txBytePosWord_eq_zero, hreset.txBitPosWord_eq_zero,
    hreset.txLevelWord_eq_zero⟩

/-- Settles O57: `State.reset` has the values every reset gives, and the registers follow from them. -/
theorem resetValues : Obligations.ResetValues :=
  ⟨reset_hasResetValues, reset_result, reset_hasResetValues.irqLine_eq_false, readOffset_id State.reset,
    fun _ ho => reset_hasResetValues.readOffset_eq_zero ho⟩

end Sys2Proof.Machine
end

section
/-! SUPPORT. What a command, a register access and an ill-formed write leave in SESSION, KS_DEC and KS_ENC
(10_state.md R32, R33, 20_memory.md R92). -/
namespace Sys2Proof.Machine

/-! ## The code a command ends with -/

@[simp] theorem succeed_code (op : Byte) (v : Word) (s : State) : (succeed op v s).code = 0 :=
  resultWord_code op 0x00

@[simp] theorem raise_code (op : Byte) (e : ErrorCode) (s : State) : (raise op e s).code = e.code :=
  resultWord_code op e.code

/-! ## The session a command's pseudocode leaves -/

/-- If the pseudocode ends with `ok`, its writes leave `f` as the session. -/
def CmdEnd.LeavesSession (f : Option Session) (r : CmdEnd) : Prop := ∀ u v, r = .ok (u, v) → u.session = f

namespace CmdEnd.LeavesSession
variable {f : Option Session} {c : Prop} [Decidable c] {r r' : CmdEnd} {s t : State}

theorem ok {v : Word} (h : t.session = f) : LeavesSession f (.ok (t, v)) := by
  rintro u w ⟨⟩
  exact h

theorem error {e : ErrorCode} : LeavesSession f (.error e) := by
  rintro u v ⟨⟩

theorem ite (h : c → LeavesSession f r) (h' : ¬c → LeavesSession f r') : LeavesSession f (if c then r else r') := by
  split_ifs with hc
  · exact h hc
  · exact h' hc

/-- Passing a check of the pseudocode. -/
theorem guard {e : ErrorCode} (h : ¬c → LeavesSession f r) : LeavesSession f (if c then .error e else r) :=
  ite (fun _ => error) h

theorem putBytes {bs : List Byte} : LeavesSession s.session (putBytes bs s) := by
  intro u v h
  obtain ⟨-, -, -, -, rfl⟩ := putBytes_ok.mp h
  rfl

theorem emitFrame {fr : Frame} {v : Word} (h : t.session = f) : LeavesSession f (emitFrame s t fr v) := by
  intro u w hu
  obtain ⟨-, -, rfl⟩ := emitFrame_ok.mp hu
  exact h

end CmdEnd.LeavesSession

/-- A command that succeeds leaves the session its pseudocode leaves; one that fails leaves the old one
(60_exceptions.md R341). -/
theorem endCommand_session {op : Byte} {s t : State} {r : CmdEnd} {f : Option Session}
    (h : endCommand op s r = .next t) (hr : r.LeavesSession f) :
    t.session = if t.code = 0 then f else s.session := by
  obtain ⟨u, v, hok, rfl⟩ | ⟨e, -, rfl⟩ := endCommand_next.mp h
  · simpa using hr u v hok
  · rw [raise_session, raise_code, if_neg e.code_ne_zero]

/-! ## The session every command leaves -/

/-- KS_DEC advanced once (42_deframer.md R222). -/
def Session.advanceDec (ks : Session) : Session := { ks with dec := (ksNext ks.dec).1 }

/-- KS_ENC advanced once (44_transmit.md R300). -/
def Session.advanceEnc (ks : Session) : Session := { ks with enc := (ksNext ks.enc).1 }

/-- The session after the command `i` succeeds in `s`. SEED succeeds only where there is none
(40_session_keystream.md R160). -/
def sessionAfter (i : Instr) (s : State) : Option Session :=
  match i with
  | .seed _ => s.session.or (some (newSession s))
  | .close _ | .reset _ => none
  | .rxPush _ _ _ => if s.dfPhase = .opc then s.session.map Session.advanceDec else s.session
  | .txSend _ => s.session.map Session.advanceEnc
  | _ => s.session

open CmdEnd (LeavesSession)

/-- An opcode byte advances KS_DEC, whatever the table says of the opcode (42_deframer.md R220). -/
theorem deframeOpcode_leavesSession (ks : Session) (b : Byte) (s : State) :
    LeavesSession (some ks.advanceDec) (deframeOpcode ks b s) :=
  .ite (fun _ => .emitFrame rfl) fun _ => .ite (fun _ => .ok rfl) fun _ => .ok rfl

theorem deframeLength_leavesSession (b : Byte) (s : State) : LeavesSession s.session (deframeLength b s) :=
  .ite (fun _ => .emitFrame rfl) fun _ => .ok rfl

theorem deframePayload_leavesSession (b : Byte) (s : State) : LeavesSession s.session (deframePayload b s) :=
  .ite (fun _ => .emitFrame rfl) fun _ => .ok rfl

/-- Only a byte in phase OPC advances KS_DEC (42_deframer.md R222 to R224). -/
theorem deframeByte_leavesSession (ks : Session) (b : Byte) (s : State) :
    LeavesSession (if s.dfPhase = .opc then some ks.advanceDec else s.session) (deframeByte ks b s) := by
  unfold deframeByte
  cases s.dfPhase with
  | opc => exact deframeOpcode_leavesSession ks b s
  | len => exact deframeLength_leavesSession b s
  | pay => exact deframePayload_leavesSession b s

theorem execRxPush_session {ra rb b : Byte} {s t : State} (h : execRxPush ra rb b s = .next t) :
    t.session = if t.code = 0 then sessionAfter (.rxPush ra rb b) s else s.session := by
  refine endCommand_session h (.guard fun _ => ?_)
  cases hks : s.session with
  | none => exact .error
  | some ks => simpa [sessionAfter, hks] using deframeByte_leavesSession ks b s

theorem execTxSend_session {r : BitVec 24} {s t : State} (h : execTxSend r s = .next t) :
    t.session = if t.code = 0 then sessionAfter (.txSend r) s else s.session := by
  refine endCommand_session h (.guard fun _ => ?_)
  cases hks : s.session with
  | none => exact .error
  | some ks =>
    exact .guard fun _ => .guard fun _ => .guard fun _ => .guard fun _ =>
      .ok (by simp [sessionAfter, hks, Session.advanceEnc])

/-- What every command does to the session: on success `sessionAfter`, on failure nothing. -/
theorem exec_session {i : Instr} {s t : State} (h : exec i s = .next t) :
    t.session = if t.code = 0 then sessionAfter i s else s.session := by
  cases i with
  | rxPush ra rb b => exact execRxPush_session h
  | txSend r => exact execTxSend_session h
  | seed r =>
    exact endCommand_session h (.guard fun _ => .guard fun hsome => .guard fun _ =>
      .ok (by simp [sessionAfter, Option.not_isSome_iff_eq_none.mp hsome]))
  | close r => exact endCommand_session h (.guard fun _ => .ok rfl)
  | reset r => exact endCommand_session h (.guard fun _ => .ok rfl)
  | nop r => exact endCommand_session h (.guard fun _ => .ok rfl)
  | tblWrite x rb v l => exact endCommand_session h (.guard fun _ => .guard fun _ => .guard fun _ => .ok rfl)
  | tblFill ra rb v l => exact endCommand_session h (.guard fun _ => .guard fun _ => .guard fun _ => .ok rfl)
  | tblLock r => exact endCommand_session h (.guard fun _ => .guard fun _ => .ok rfl)
  | tblRead x rb => exact endCommand_session h (.guard fun _ => .ok rfl)
  | frRead ra x =>
    refine endCommand_session h (.guard fun _ => ?_)
    cases s.frq with
    | nil => exact .error
    | cons f rest => exact .guard fun _ => .ok rfl
  | frPop r =>
    refine endCommand_session h (.guard fun _ => ?_)
    cases s.frq with
    | nil => exact .error
    | cons f rest => exact .ok rfl
  | txBegin o rb m =>
    refine endCommand_session h (.guard fun _ => ?_)
    cases modeOperand m with
    | none => exact .error
    | some m => exact .guard fun _ => .ok rfl
  | txAbort r => exact endCommand_session h (.guard fun _ => .guard fun _ => .ok rfl)
  | bitMode r => exact endCommand_session h (.guard fun _ => .guard fun _ => .guard fun _ => .ok rfl)
  | byteMode r => exact endCommand_session h (.guard fun _ => .guard fun _ => .guard fun _ => .ok rfl)
  | wrBits n rb =>
    exact endCommand_session h (.guard fun _ => .guard fun _ => .guard fun _ => .guard fun _ => .ok rfl)
  | wrByte ra rb v => exact endCommand_session h (.guard fun _ => .putBytes)
  | wrShortBe ra v => exact endCommand_session h (.guard fun _ => .putBytes)
  | wrShortLe ra v => exact endCommand_session h (.guard fun _ => .putBytes)
  | wrIntBe r => exact endCommand_session h (.guard fun _ => .putBytes)
  | wrLongBe r => exact endCommand_session h (.guard fun _ => .putBytes)
  | wrPlaceholder r =>
    exact endCommand_session h
      (.guard fun _ => .guard fun _ => .guard fun _ => .guard fun _ => .guard fun _ => .ok rfl)
  | txPop r =>
    refine endCommand_session h (.guard fun _ => ?_)
    cases s.txq with
    | nil => exact .error
    | cons e rest => exact .ok rfl

/-- In a session that the command does not end, a success advances KS_DEC for an opcode byte, KS_ENC for a message and
nothing else (20_memory.md R92). -/
theorem sessionAfter_of_some {i : Instr} {s : State} {ks : Session} (hks : s.session = some ks)
    (hlive : sessionAfter i s ≠ none) :
    sessionAfter i s = some
      ⟨if i.opCode = 0x20 ∧ s.dfPhase = .opc then (ksNext ks.dec).1 else ks.dec,
        if i.opCode = 0x40 then (ksNext ks.enc).1 else ks.enc⟩ := by
  cases i
  case close r => exact absurd rfl hlive
  case reset r => exact absurd rfl hlive
  case rxPush ra rb b =>
    by_cases hopc : s.dfPhase = .opc
    · simp [sessionAfter, Instr.opCode, hks, hopc, Session.advanceDec]
    · simp [sessionAfter, Instr.opCode, hks, hopc]
  case txSend r => simp [sessionAfter, Instr.opCode, hks, Session.advanceEnc]
  all_goals simp [sessionAfter, Instr.opCode, hks]

/-! ## The session after an access that runs no command -/

/-- With RST deasserted the access first at the port is the one that takes effect. -/
theorem step_atPort (a : Access) (s : State) : step (atPort a s) = portAccess a { s with rst := false } :=
  step_access (s := atPort a s) rfl rfl

theorem portAccess_read_session (width addr : Nat) (s : State) :
    ∃ t, portAccess (.read width addr) s = .next t ∧ t.session = s.session := by
  simp only [portAccess]
  split_ifs
  · exact ⟨_, rfl, rfl⟩
  · exact ⟨_, rfl, rfl⟩
  · exact ⟨_, rfl, rfl⟩

theorem eq_offset_of_regAt {offset : Nat} {r : Reg} (h : regAt offset = some r) : offset = r.offset := by
  unfold regAt at h
  split at h <;> cases h <;> rfl

@[simp] theorem storeReg_session (r : Reg) (v : Word) (s : State) : (storeReg r v s).session = s.session := by
  cases r <;> rfl

/-- A CMD write of a word that is no command fails with ILLEGAL (30_encoding.md R114), which keeps the session. -/
theorem commandWrite_session {w : Word} (h : ¬∃ i, decode w = .ok i) (s : State) :
    ∃ t, commandWrite w s = .next t ∧ t.session = s.session := by
  unfold commandWrite
  split
  next i hi => exact absurd ⟨i, hi⟩ h
  next op _ => exact ⟨_, rfl, raise_session op .illegal s⟩

theorem windowWrite_session {offset : Nat} {v : Word} (h : ¬(offset = 0x08 ∧ ∃ i, decode v = .ok i)) (s : State) :
    ∃ t, windowWrite offset v s = .next t ∧ t.session = s.session := by
  unfold windowWrite
  split
  next hcmd => exact commandWrite_session (fun hi => h ⟨eq_offset_of_regAt hcmd, hi⟩) s
  next r _ _ => exact ⟨_, rfl, storeReg_session r v s⟩
  next => exact ⟨s, rfl, rfl⟩

theorem width_of_accessLegal {width offset : Nat} (h : accessLegal width offset = true) : width = 4 := by
  simp only [accessLegal, Bool.and_eq_true, beq_iff_eq] at h
  obtain ⟨⟨hwidth, -⟩, -⟩ := h
  exact hwidth

theorem portAccess_write_session {width addr : Nat} {v : Word} {s : State}
    (h : ¬(width = 4 ∧ addr = s.cfg.kfbBase + 0x08 ∧ ∃ i, decode v = .ok i)) :
    ∃ t, portAccess (.write width addr v) s = .next t ∧ t.session = s.session := by
  simp only [portAccess]
  split_ifs with hbelow hlegal
  · exact ⟨_, rfl, rfl⟩
  · refine windowWrite_session ?_ _
    rintro ⟨hoffset, hi⟩
    exact h ⟨width_of_accessLegal hlegal, by omega, hi⟩
  · exact ⟨_, rfl, rfl⟩

/-! ## The statement -/

/-- Settles O13: a command leaves the session `exec_session` gives, and an access that runs no command leaves the one it
found. -/
theorem keystreamsAdvanceOnlyAsStated : Obligations.KeystreamsAdvanceOnlyAsStated := by
  refine ⟨fun i s t ks hks hexec hlive => ?command, fun s width addr => ?read, fun s width addr v hno => ?write⟩
  case command =>
    have hsession := exec_session hexec
    by_cases hcode : t.code = 0
    · rw [if_pos hcode] at hsession
      simpa [hcode, hsession] using sessionAfter_of_some hks (hsession ▸ hlive)
    · simpa only [hcode, and_false, if_false, hks] using hsession
  case read =>
    rw [step_atPort]
    exact portAccess_read_session width addr _
  case write =>
    rw [step_atPort]
    exact portAccess_write_session hno

end Sys2Proof.Machine
end

section
/-! SUPPORT. What the decoder keeps of a word, and the argument check of every command (30_encoding.md R110 to R115). -/
namespace Sys2Proof.Machine

/-! ## The operand layouts of 30_encoding.md R111 -/

section Layouts
open BitVec

/-- A and B whole. -/
theorem fieldA_append_fieldB (w : Word) : fieldA w ++ fieldB w = fieldAB w :=
  extractLsb'_append_extractLsb'_eq_extractLsb' rfl

/-- B as two bytes, the upper one reserved. -/
theorem fieldA_append_bytes (w : Word) : fieldA w ++ w.extractLsb' 8 8 ++ w.extractLsb' 0 8 = fieldAB w := by
  have hA : fieldA w ++ w.extractLsb' 8 8 = w.extractLsb' 8 16 := extractLsb'_append_extractLsb'_eq_extractLsb' rfl
  rw [hA]
  exact extractLsb'_append_extractLsb'_eq_extractLsb' rfl

/-- B as a table entry: VAR in bit 8, LEN below, the rest reserved. -/
theorem fieldA_append_entry (w : Word) :
    fieldA w ++ w.extractLsb' 9 7 ++ w.extractLsb' 8 1 ++ w.extractLsb' 0 8 = fieldAB w := by
  have hA : fieldA w ++ w.extractLsb' 9 7 = w.extractLsb' 9 15 := extractLsb'_append_extractLsb'_eq_extractLsb' rfl
  have hvar : w.extractLsb' 9 15 ++ w.extractLsb' 8 1 = w.extractLsb' 8 16 :=
    extractLsb'_append_extractLsb'_eq_extractLsb' rfl
  rw [hA, hvar]
  exact extractLsb'_append_extractLsb'_eq_extractLsb' rfl

/-- B as a framing mode in its low two bits, the rest reserved. -/
theorem fieldA_append_mode (w : Word) : fieldA w ++ w.extractLsb' 2 14 ++ w.extractLsb' 0 2 = fieldAB w := by
  have hA : fieldA w ++ w.extractLsb' 2 14 = w.extractLsb' 2 22 := extractLsb'_append_extractLsb'_eq_extractLsb' rfl
  rw [hA]
  exact extractLsb'_append_extractLsb'_eq_extractLsb' rfl

end Layouts

/-! ## The two answers of the decoder -/

/-- A decoded command has the OP and, whatever its layout, the operand bits of its word (30_encoding.md R110, R111). -/
theorem fields_of_decode_ok {w : Word} {i : Instr} (h : decode w = .ok i) :
    i.opCode = fieldOP w ∧ i.operands = fieldAB w := by
  unfold decode at h
  split at h <;> cases h
  all_goals
    refine ⟨Eq.symm ‹_›, ?_⟩
    simp only [Instr.operands, fieldA_append_fieldB, fieldA_append_bytes, fieldA_append_entry, fieldA_append_mode]

/-- The decoder refuses a word for its OP alone, and only an OP outside the command map (30_encoding.md R113, R114). -/
theorem illegal_of_decode_error {w : Word} {e : DecodeError} (h : decode w = .error e) :
    e = .illegal (fieldOP w) ∧ IllegalOp (fieldOP w).toNat := by
  unfold decode at h
  split at h <;> cases h
  refine ⟨rfl, ?_⟩
  simp only [imp_false] at *
  unfold IllegalOp
  bv_omega

/-- No command has an illegal OP (30_encoding.md R113, R114). -/
theorem not_illegalOp_opCode (i : Instr) : ¬ IllegalOp i.opCode.toNat := by
  cases i <;> simp [Instr.opCode, IllegalOp]

/-- Settles O3, by the decoder's answer: a command has the OP of its word, which is therefore legal, and a refusal means
an illegal OP. -/
theorem everyWordIsCommandOrIllegal : Obligations.EveryWordIsCommandOrIllegal := by
  intro w
  cases hw : decode w with
  | ok i =>
    obtain ⟨hop, hoperands⟩ := fields_of_decode_ok hw
    have hlegal : ¬ IllegalOp (fieldOP w).toNat := hop ▸ not_illegalOp_opCode i
    exact ⟨fun hillegal => absurd hillegal hlegal, fun _ => ⟨i, rfl, hop, hoperands⟩⟩
  | error e =>
    obtain ⟨rfl, hillegal⟩ := illegal_of_decode_error hw
    exact ⟨fun _ => rfl, fun hlegal => absurd hillegal hlegal⟩

/-! ## The argument check (30_encoding.md R112) -/

/-- The check of a table entry in the pseudocode is the one of R112 (41_size_table.md R199). -/
theorem entryMalformed_iff {v : BitVec 1} {l : Byte} : entryMalformed v l = true ↔ entryFits v l = false := by
  have hvar : (v == 1) = !(v == 0) := by
    revert v
    decide
  rw [entryMalformed, entryFits, hvar, bne, ← Bool.not_or, Bool.not_eq_true']

section BadArg
variable {op : Byte} {s : State}

theorem endCommand_of_eq_error {r : CmdEnd} {e : ErrorCode} (h : r = .error e) :
    endCommand op s r = .next (raise op e s) :=
  h ▸ endCommand_error op s e

/-- A reserved field that is not zero, in a command with one such field. -/
theorem endCommand_of_reserved {n : Nat} {a : BitVec n} {r : CmdEnd} (h : (a == 0) = false) :
    endCommand op s (if a ≠ 0 then .error .badArg else r) = .next (raise op .badArg s) :=
  endCommand_of_eq_error (if_pos (beq_eq_false_iff_ne.mp h))

/-- A reserved field that is not zero, in a command with two. -/
theorem endCommand_of_reserved_or {m n : Nat} {a : BitVec m} {b : BitVec n} {r : CmdEnd}
    (h : (a == 0 && b == 0) = false) :
    endCommand op s (if a ≠ 0 ∨ b ≠ 0 then .error .badArg else r) = .next (raise op .badArg s) :=
  endCommand_of_eq_error (if_pos (by simpa [Decidable.imp_iff_not_or] using h))

end BadArg

/-- A command that is not well formed ends with BADARG before it looks at the state (30_encoding.md R112). Beside the
reserved fields this is the entry of TBL_WRITE and TBL_FILL, the mode of TX_BEGIN and the bit count of WR_BITS. -/
theorem exec_of_not_wellFormed {i : Instr} (h : i.wellFormed = false) (s : State) :
    exec i s = .next (raise i.opCode .badArg s) := by
  cases i
  case tblWrite x rb v l =>
    refine endCommand_of_eq_error (ite_eq_left_iff.mpr fun hrb => if_pos (entryMalformed_iff.mpr ?_))
    simpa [Instr.wellFormed, not_not.mp hrb] using h
  case tblFill ra rb v l =>
    refine endCommand_of_eq_error (ite_eq_left_iff.mpr fun hreserved => if_pos (entryMalformed_iff.mpr ?_))
    obtain ⟨rfl, rfl⟩ : ra = 0 ∧ rb = 0 := by simpa using hreserved
    simpa [Instr.wellFormed] using h
  case txBegin o rb m =>
    refine endCommand_of_eq_error (ite_eq_left_iff.mpr fun hrb => ?_)
    obtain rfl : m = 3 := by simpa [Instr.wellFormed, not_not.mp hrb] using h
    rfl
  case wrBits n rb =>
    refine endCommand_of_eq_error (if_pos ?_)
    simp only [Instr.wellFormed, Bool.and_eq_false_iff, beq_eq_false_iff_ne, decide_eq_false_iff_not] at h
    bv_omega
  case rxPush | wrByte => exact endCommand_of_reserved_or h
  all_goals exact endCommand_of_reserved h

/-- `raise`, as the statements say it (60_exceptions.md R341, R342). -/
theorem next_raise_eq_failsWith (op : Byte) (e : ErrorCode) (s : State) :
    Host.Outcome.next (raise op e s) = failsWith op e.code s := rfl

/-- Settles O9: BADARG is the code 0x02. -/
theorem badArgumentFails : Obligations.BadArgumentFails := fun i s h =>
  (exec_of_not_wellFormed h s).trans (next_raise_eq_failsWith i.opCode .badArg s)

end Sys2Proof.Machine
end

section
/-! SUPPORT. A check of a command's pseudocode, failed or passed, and its `ok`, in the words of the statements; with them
the session commands SEED and CLOSE (40_session_keystream.md section 3). -/
namespace Sys2Proof.Machine

/-! ## Checks and the end of a command, as the statements say them -/

section Checks
variable {op : Byte} {s t : State} {c : Prop} [Decidable c] {e : ErrorCode} {r : CmdEnd} {v : Word}

/-- The first check that fails ends the command (60_exceptions.md R341). -/
theorem endCommand_check_failed (hc : c) : endCommand op s (if c then .error e else r) = failsWith op e.code s :=
  endCommand_of_eq_error (if_pos hc)

theorem endCommand_check_passed (hc : ¬c) : endCommand op s (if c then .error e else r) = endCommand op s r :=
  congrArg (endCommand op s) (if_neg hc)

/-- `ok(v)`, as the statements say it (60_exceptions.md R342). -/
theorem endCommand_ok_eq_endsOk : endCommand op s (.ok (t, v)) = endsOk op v t := rfl

end Checks

/-! ## SEED (40_session_keystream.md R160) -/

theorem execSeed_of_session {s : State} (h : s.session ≠ none) : execSeed 0 s = failsWith 0x01 0x04 s :=
  (endCommand_check_passed (not_not.mpr rfl)).trans (endCommand_check_failed (Option.isSome_iff_ne_none.mpr h))

/-- Where there is no session, SEED comes to the check of TBL_LOCK. -/
theorem execSeed_of_no_session {s : State} (h : s.session = none) :
    execSeed 0 s = endCommand 0x01 s
      (if s.tblLock = false then .error .tableUnlocked else .ok ({ s with session := some (newSession s) }, 0)) :=
  (endCommand_check_passed (not_not.mpr rfl)).trans
    (endCommand_check_passed (Option.not_isSome_iff_eq_none.mpr h))

/-- The two keystreams of a new session, each from its seed words (40_session_keystream.md R153, R160). -/
theorem newSession_eq (s : State) :
    newSession s =
      ⟨ksSeed s.cfg.ksImpl ⟨s.data0, s.data1, s.data2, s.data3⟩,
        ksSeed s.cfg.ksImpl ⟨s.data0 + 50, s.data1 + 50, s.data2 + 50, s.data3 + 50⟩⟩ := rfl

/-- Settles O21, check by check in the order of R160. -/
theorem seedRule : Obligations.SeedRule := by
  refine fun r s => ⟨fun hr => ?badArg, ?sessionExists, ?tableUnlocked, ?created, rfl⟩
  case badArg => exact badArgumentFails (.seed r) s (beq_eq_false_iff_ne.mpr hr)
  case sessionExists =>
    rintro rfl hsession
    exact execSeed_of_session hsession
  case tableUnlocked =>
    rintro rfl hsession hunlocked
    exact (execSeed_of_no_session hsession).trans (endCommand_check_failed hunlocked)
  case created =>
    rintro rfl hsession hlocked
    rw [← newSession_eq]
    exact (execSeed_of_no_session hsession).trans (endCommand_check_passed (by simp [hlocked]))

/-! ## CLOSE (40_session_keystream.md R165) -/

/-- CLOSE with its reserved field zero ends with OK in every state; `closeSession` is what it clears. -/
theorem execClose_zero (s : State) : execClose 0 s = endsOk 0x02 0 (closeSession s) :=
  (endCommand_check_passed (not_not.mpr rfl)).trans endCommand_ok_eq_endsOk

/-- Settles O22: the fields the statement lists are those `closeSession` clears. -/
theorem closeRule : Obligations.CloseRule := by
  refine fun r s => ⟨fun hr => ?badArg, ?cleared, rfl⟩
  case badArg => exact badArgumentFails (.close r) s (beq_eq_false_iff_ne.mpr hr)
  case cleared =>
    rintro rfl
    exact execClose_zero s

end Sys2Proof.Machine
end

section
/-! SUPPORT. The size-table commands TBL_WRITE, TBL_FILL, TBL_LOCK and TBL_READ (41_size_table.md), and what every
command leaves in the table and TBL_LOCK (10_state.md R35). -/
namespace Sys2Proof.Machine

/-! ## A table entry as an operand (41_size_table.md R199) -/

theorem entryMalformed_eq_true {v : BitVec 1} {l : Byte} : entryMalformed v l = true ↔ v = 1 ∧ l ≠ 0 := by
  simp [entryMalformed]

theorem entryFits_eq_true {v : BitVec 1} {l : Byte} : entryFits v l = true ↔ ¬(v = 1 ∧ l ≠ 0) := by
  rw [← entryMalformed_eq_true, entryMalformed_iff, Bool.not_eq_false]

theorem wellFormed_tblWrite {k : Byte} {rb : BitVec 7} {v : BitVec 1} {l : Byte} :
    (Instr.tblWrite k rb v l).wellFormed = true ↔ rb = 0 ∧ ¬(v = 1 ∧ l ≠ 0) := by
  rw [← entryFits_eq_true]
  simp [Instr.wellFormed]

theorem wellFormed_tblFill {ra : Byte} {rb : BitVec 7} {v : BitVec 1} {l : Byte} :
    (Instr.tblFill ra rb v l).wellFormed = true ↔ ra = 0 ∧ rb = 0 ∧ ¬(v = 1 ∧ l ≠ 0) := by
  rw [← entryFits_eq_true]
  simp [Instr.wellFormed, and_assoc]

/-! ## TBL_WRITE (41_size_table.md R200) -/

section TblWrite
variable {k : Byte} {rb : BitVec 7} {v : BitVec 1} {l : Byte} {s : State}

/-- With good arguments TBL_WRITE comes to the check of TBL_LOCK. -/
theorem exec_tblWrite_of_wellFormed (h : (Instr.tblWrite k rb v l).wellFormed = true) :
    exec (.tblWrite k rb v l) s = endCommand 0x10 s
      (if s.tblLock = true then .error .tableLocked
        else .ok ({ s with table := s.table.set k (entryOperand v l) }, 0)) := by
  obtain ⟨hrb, hentry⟩ := wellFormed_tblWrite.mp h
  exact (endCommand_check_passed (not_not.mpr hrb)).trans
    (endCommand_check_passed (mt entryMalformed_eq_true.mp hentry))

theorem exec_tblWrite_of_locked (h : (Instr.tblWrite k rb v l).wellFormed = true) (hlock : s.tblLock = true) :
    exec (.tblWrite k rb v l) s = failsWith 0x10 0x05 s :=
  (exec_tblWrite_of_wellFormed h).trans (endCommand_check_failed hlock)

theorem exec_tblWrite_of_unlocked (h : (Instr.tblWrite k rb v l).wellFormed = true) (hlock : s.tblLock = false) :
    exec (.tblWrite k rb v l) s = endsOk 0x10 0 { s with table := s.table.set k (entryOperand v l) } :=
  (exec_tblWrite_of_wellFormed h).trans (endCommand_check_passed (Bool.eq_false_iff.mp hlock))

end TblWrite

/-- Settles O23, check by check in the order of R200. -/
theorem tblWriteRule : Obligations.TblWriteRule := by
  intro k rb v l s
  refine ⟨fun hbad => ?badArg, fun hrb hentry hlock => ?locked, fun hrb hentry hlock => ?written, rfl⟩
  case badArg =>
    refine badArgumentFails (.tblWrite k rb v l) s (Bool.eq_false_iff.mpr fun hwf => ?_)
    obtain ⟨hrb, hentry⟩ := wellFormed_tblWrite.mp hwf
    exact hbad.elim (absurd hrb) hentry
  case locked => exact exec_tblWrite_of_locked (wellFormed_tblWrite.mpr ⟨hrb, hentry⟩) hlock
  case written =>
    exact ⟨_, exec_tblWrite_of_unlocked (wellFormed_tblWrite.mpr ⟨hrb, hentry⟩) hlock,
      s.table.get_set_same k (entryOperand v l), fun _ => s.table.get_set_other (entryOperand v l), rfl⟩

/-! ## TBL_FILL (41_size_table.md R202) -/

section TblFill
variable {ra : Byte} {rb : BitVec 7} {v : BitVec 1} {l : Byte} {s : State}

/-- With good arguments TBL_FILL comes to the check of TBL_LOCK. -/
theorem exec_tblFill_of_wellFormed (h : (Instr.tblFill ra rb v l).wellFormed = true) :
    exec (.tblFill ra rb v l) s = endCommand 0x11 s
      (if s.tblLock = true then .error .tableLocked
        else .ok ({ s with table := Array256.fill (entryOperand v l) }, 0)) := by
  obtain ⟨hra, hrb, hentry⟩ := wellFormed_tblFill.mp h
  have hreserved : ¬(ra ≠ 0 ∨ rb ≠ 0) := not_or.mpr ⟨not_not.mpr hra, not_not.mpr hrb⟩
  exact (endCommand_check_passed hreserved).trans (endCommand_check_passed (mt entryMalformed_eq_true.mp hentry))

theorem exec_tblFill_of_locked (h : (Instr.tblFill ra rb v l).wellFormed = true) (hlock : s.tblLock = true) :
    exec (.tblFill ra rb v l) s = failsWith 0x11 0x05 s :=
  (exec_tblFill_of_wellFormed h).trans (endCommand_check_failed hlock)

theorem exec_tblFill_of_unlocked (h : (Instr.tblFill ra rb v l).wellFormed = true) (hlock : s.tblLock = false) :
    exec (.tblFill ra rb v l) s = endsOk 0x11 0 { s with table := Array256.fill (entryOperand v l) } :=
  (exec_tblFill_of_wellFormed h).trans (endCommand_check_passed (Bool.eq_false_iff.mp hlock))

end TblFill

/-- Settles O24, check by check in the order of R202. -/
theorem tblFillRule : Obligations.TblFillRule := by
  intro ra rb v l s
  refine ⟨fun hbad => ?badArg, fun hra hrb hentry hlock => ?locked, fun hra hrb hentry hlock => ?filled, rfl⟩
  case badArg =>
    refine badArgumentFails (.tblFill ra rb v l) s (Bool.eq_false_iff.mpr fun hwf => ?_)
    obtain ⟨hra, hrb, hentry⟩ := wellFormed_tblFill.mp hwf
    exact hbad.elim (absurd hra) fun hbad => hbad.elim (absurd hrb) hentry
  case locked => exact exec_tblFill_of_locked (wellFormed_tblFill.mpr ⟨hra, hrb, hentry⟩) hlock
  case filled =>
    exact ⟨_, exec_tblFill_of_unlocked (wellFormed_tblFill.mpr ⟨hra, hrb, hentry⟩) hlock,
      Array256.get_fill (entryOperand v l), rfl⟩

/-! ## TBL_LOCK (41_size_table.md R204) -/

/-- With its reserved field zero TBL_LOCK comes to the check of the table, which looks for an invalid entry. -/
theorem execTblLock_zero (s : State) :
    execTblLock 0 s = endCommand 0x12 s
      (if s.tblLock = false ∧ s.table.all (fun e => e.valid) = false then .error .tableIncomplete
        else .ok ({ s with tblLock := true }, 0)) :=
  endCommand_check_passed (not_not.mpr rfl)

/-- TBL_LOCK's check finds exactly the tables with an invalid entry. -/
theorem table_all_valid_eq_false {s : State} :
    s.table.all (fun e => e.valid) = false ↔ ∃ k, (s.table.get k).valid = false := by
  simp only [← Bool.not_eq_true, Array256.all_iff, not_forall]

/-- Settles O25: the table is incomplete exactly when some entry is invalid, and a locked one is not looked at. -/
theorem tblLockRule : Obligations.TblLockRule := by
  refine fun r s => ⟨fun hr => ?badArg, ?incomplete, ?locks, rfl⟩
  case badArg => exact badArgumentFails (.tblLock r) s (beq_eq_false_iff_ne.mpr hr)
  case incomplete =>
    rintro rfl hunlocked hinvalid
    exact (execTblLock_zero s).trans (endCommand_check_failed ⟨hunlocked, table_all_valid_eq_false.mpr hinvalid⟩)
  case locks =>
    rintro rfl hcomplete
    refine (execTblLock_zero s).trans (endCommand_check_passed ?_)
    rintro ⟨hunlocked, hincomplete⟩
    obtain ⟨k, hk⟩ := table_all_valid_eq_false.mp hincomplete
    rcases hcomplete with hlocked | hvalid
    · exact Bool.eq_false_iff.mp hunlocked hlocked
    · exact Bool.eq_false_iff.mp hk (hvalid k)

/-! ## TBL_READ (41_size_table.md R206) -/

theorem execTblRead_zero (k : Byte) (s : State) :
    execTblRead k 0 s = endsOk 0x13 (rvalTableEntry (s.table.get k)) s :=
  (endCommand_check_passed (not_not.mpr rfl)).trans endCommand_ok_eq_endsOk

theorem rvalTableEntry_of_valid {e : TableEntry} (h : e.valid = true) :
    rvalTableEntry e = 0#22 ++ 1#1 ++ BitVec.ofBool e.var ++ e.len :=
  if_pos h

theorem rvalTableEntry_of_invalid {e : TableEntry} (h : e.valid = false) : rvalTableEntry e = 0 :=
  if_neg (Bool.eq_false_iff.mp h)

/-- Settles O26: RVAL is the one word `rvalTableEntry`, which depends on VALID alone for its form. -/
theorem tblReadRule : Obligations.TblReadRule := by
  refine fun k rb s => ⟨fun hrb => ?badArg, ?valid, ?invalid, rfl⟩
  case badArg => exact badArgumentFails (.tblRead k rb) s (beq_eq_false_iff_ne.mpr hrb)
  case valid =>
    rintro rfl hvalid
    rw [← rvalTableEntry_of_valid hvalid]
    exact execTblRead_zero k s
  case invalid =>
    rintro rfl hinvalid
    rw [← rvalTableEntry_of_invalid hinvalid]
    exact execTblRead_zero k s

/-! ## What the state holds after a command's pseudocode ends with `ok` -/

/-- If the pseudocode ends with `ok`, its writes make a state that meets `P`. -/
def CmdEnd.OkMeets (P : State → Prop) (r : CmdEnd) : Prop := ∀ u v, r = .ok (u, v) → P u

namespace CmdEnd.OkMeets
variable {P : State → Prop} {c : Prop} [Decidable c] {r r' : CmdEnd} {s t : State}

theorem ok {v : Word} (h : P t) : OkMeets P (.ok (t, v)) := by
  rintro u w ⟨⟩
  exact h

theorem error {e : ErrorCode} : OkMeets P (.error e) := by
  rintro u v ⟨⟩

theorem ite (h : c → OkMeets P r) (h' : ¬c → OkMeets P r') : OkMeets P (if c then r else r') := by
  split_ifs with hc
  · exact h hc
  · exact h' hc

/-- Passing a check of the pseudocode. -/
theorem guard {e : ErrorCode} (h : ¬c → OkMeets P r) : OkMeets P (if c then .error e else r) :=
  ite (fun _ => error) h

/-- `PutBytes` writes TX_BUF and the byte cursor only (43_framer.md R268). -/
theorem putBytes {bs : List Byte} (h : ∀ buf pos, P { s with txBuf := buf, txBytePos := pos }) :
    OkMeets P (putBytes bs s) := by
  intro u v hu
  obtain ⟨-, -, -, -, rfl⟩ := putBytes_ok.mp hu
  exact h _ _

/-- A frame pushed changes FRQ only (42_deframer.md R220). -/
theorem emitFrame {f : Frame} {v : Word} (h : ∀ frq, P { t with frq := frq }) : OkMeets P (emitFrame s t f v) := by
  intro u w hu
  obtain ⟨-, -, rfl⟩ := emitFrame_ok.mp hu
  exact h _

end CmdEnd.OkMeets

open CmdEnd (OkMeets)

/-- A command ends in a state its pseudocode makes, but for RESULT and RVAL, or it raises (60_exceptions.md R341). -/
theorem endCommand_next_of_okMeets {op : Byte} {s t : State} {r : CmdEnd} {P : State → Prop}
    (h : endCommand op s r = .next t) (hr : r.OkMeets P) :
    (∃ u v, P u ∧ t = succeed op v u) ∨ ∃ e, t = raise op e s := by
  obtain ⟨u, v, hok, rfl⟩ | ⟨e, -, rfl⟩ := endCommand_next.mp h
  · exact .inl ⟨u, v, hr u v hok, rfl⟩
  · exact .inr ⟨e, rfl⟩

/-! ## The table and TBL_LOCK that every command leaves -/

/-- The table after the command `i` succeeds in `s`. TBL_WRITE and TBL_FILL succeed only where it is not locked
(41_size_table.md R200, R202). -/
def tableAfter (i : Instr) (s : State) : Array256 TableEntry :=
  match i with
  | .tblWrite k _ v l => if s.tblLock = true then s.table else s.table.set k (entryOperand v l)
  | .tblFill _ _ v l => if s.tblLock = true then s.table else Array256.fill (entryOperand v l)
  | .reset _ => State.reset.table
  | _ => s.table

/-- TBL_LOCK after the command `i` succeeds in `s`. -/
def lockAfter (i : Instr) (s : State) : Bool :=
  match i with
  | .tblLock _ => true
  | .reset _ => false
  | _ => s.tblLock

/-- In `t` the table and TBL_LOCK are those a success of `i` in `s` leaves. -/
structure LeavesTable (i : Instr) (s t : State) : Prop where
  table : t.table = tableAfter i s
  tblLock : t.tblLock = lockAfter i s

/-- Whatever the phase, an inbound byte reads the table and does not write it (42_deframer.md R220). -/
theorem deframeByte_leavesTable (ra rb b : Byte) (ks : Session) (s : State) :
    OkMeets (LeavesTable (.rxPush ra rb b) s) (deframeByte ks b s) := by
  unfold deframeByte
  cases s.dfPhase with
  | opc =>
    exact .ite (fun _ => .emitFrame fun _ => ⟨rfl, rfl⟩) fun _ =>
      .ite (fun _ => .ok ⟨rfl, rfl⟩) fun _ => .ok ⟨rfl, rfl⟩
  | len => exact .ite (fun _ => .emitFrame fun _ => ⟨rfl, rfl⟩) fun _ => .ok ⟨rfl, rfl⟩
  | pay => exact .ite (fun _ => .emitFrame fun _ => ⟨rfl, rfl⟩) fun _ => .ok ⟨rfl, rfl⟩

/-- RESULT and RVAL are not the table's. -/
theorem endCommand_table {i : Instr} {op : Byte} {s t : State} {r : CmdEnd} (h : endCommand op s r = .next t)
    (hr : r.OkMeets (LeavesTable i s)) : LeavesTable i s t ∨ ∃ e, t = raise op e s :=
  (endCommand_next_of_okMeets h hr).imp_left fun ⟨_, _, hu, ht⟩ => ht ▸ ⟨hu.table, hu.tblLock⟩

/-- What every command does to the table and TBL_LOCK: on success `tableAfter` and `lockAfter`, on failure nothing. -/
theorem exec_table {i : Instr} {s t : State} (h : exec i s = .next t) :
    LeavesTable i s t ∨ ∃ e, t = raise i.opCode e s := by
  cases i
  case nop | close | reset | tblRead => exact endCommand_table h (.guard fun _ => .ok ⟨rfl, rfl⟩)
  case tblLock | txAbort => exact endCommand_table h (.guard fun _ => .guard fun _ => .ok ⟨rfl, rfl⟩)
  case tblWrite | tblFill =>
    exact endCommand_table h (.guard fun _ => .guard fun _ => .guard fun hunlocked =>
      .ok ⟨(if_neg hunlocked).symm, rfl⟩)
  case seed | bitMode | byteMode =>
    exact endCommand_table h (.guard fun _ => .guard fun _ => .guard fun _ => .ok ⟨rfl, rfl⟩)
  case wrBits =>
    exact endCommand_table h (.guard fun _ => .guard fun _ => .guard fun _ => .guard fun _ => .ok ⟨rfl, rfl⟩)
  case wrPlaceholder =>
    exact endCommand_table h
      (.guard fun _ => .guard fun _ => .guard fun _ => .guard fun _ => .guard fun _ => .ok ⟨rfl, rfl⟩)
  case wrByte | wrShortBe | wrShortLe | wrIntBe | wrLongBe =>
    exact endCommand_table h (.guard fun _ => .putBytes fun _ _ => ⟨rfl, rfl⟩)
  case rxPush ra rb b =>
    refine endCommand_table h (.guard fun _ => ?_)
    cases s.session with
    | none => exact .error
    | some ks => exact deframeByte_leavesTable ra rb b ks s
  case frRead =>
    refine endCommand_table h (.guard fun _ => ?_)
    cases s.frq with
    | nil => exact .error
    | cons f rest => exact .guard fun _ => .ok ⟨rfl, rfl⟩
  case frPop =>
    refine endCommand_table h (.guard fun _ => ?_)
    cases s.frq with
    | nil => exact .error
    | cons f rest => exact .ok ⟨rfl, rfl⟩
  case txBegin o rb m =>
    refine endCommand_table h (.guard fun _ => ?_)
    cases modeOperand m with
    | none => exact .error
    | some mode => exact .guard fun _ => .ok ⟨rfl, rfl⟩
  case txSend =>
    refine endCommand_table h (.guard fun _ => ?_)
    cases s.session with
    | none => exact .error
    | some ks =>
      exact .guard fun _ => .guard fun _ => .guard fun _ => .guard fun _ => .ok ⟨rfl, rfl⟩
  case txPop =>
    refine endCommand_table h (.guard fun _ => ?_)
    cases s.txq with
    | nil => exact .error
    | cons e rest => exact .ok ⟨rfl, rfl⟩

/-! ## TBL_LOCK freezes the table (10_state.md R35) -/

theorem tableAfter_of_locked {i : Instr} {s : State} (hlock : s.tblLock = true) (hreset : i.opCode ≠ 0x03) :
    tableAfter i s = s.table := by
  cases i
  case tblWrite | tblFill => exact if_pos hlock
  case reset => exact absurd rfl hreset
  all_goals rfl

theorem lockAfter_of_locked {i : Instr} {s : State} (hlock : s.tblLock = true) (hreset : i.opCode ≠ 0x03) :
    lockAfter i s = true := by
  cases i
  case tblLock => rfl
  case reset => exact absurd rfl hreset
  all_goals exact hlock

/-- Only TBL_LOCK takes TBL_LOCK from 0 to 1. -/
theorem opCode_of_lockAfter {i : Instr} {s : State} (hunlocked : s.tblLock = false) (h : lockAfter i s = true) :
    i.opCode = 0x12 := by
  cases i
  case tblLock => rfl
  case reset => exact absurd h Bool.false_ne_true
  all_goals exact absurd h (Bool.eq_false_iff.mp hunlocked)

/-- A locked table refuses every well-formed command that writes entries (41_size_table.md R200, R202). -/
theorem exec_entry_of_locked {i : Instr} {s : State} (hlock : s.tblLock = true) (hwf : i.wellFormed = true)
    (hop : i.opCode = 0x10 ∨ i.opCode = 0x11) : exec i s = failsWith i.opCode 0x05 s := by
  cases i
  case tblWrite => exact exec_tblWrite_of_locked hwf hlock
  case tblFill => exact exec_tblFill_of_locked hwf hlock
  all_goals simp [Instr.opCode] at hop

/-- Settles O15: a success leaves what `tableAfter` and `lockAfter` say, a failure leaves both as they were. -/
theorem lockFreezesTable : Obligations.LockFreezesTable := by
  refine ⟨reset_tblLock, fun i s => exec_entry_of_locked, fun i s t h => ?_⟩
  obtain hafter | ⟨e, rfl⟩ := exec_table h
  · refine ⟨fun hlock hreset => ⟨?_, ?_⟩, fun hunlocked hlock => ?_⟩
    · exact hafter.tblLock.trans (lockAfter_of_locked hlock hreset)
    · exact hafter.table.trans (tableAfter_of_locked hlock hreset)
    · exact opCode_of_lockAfter hunlocked (hafter.tblLock.symm.trans hlock)
  · exact ⟨fun hlock _ => ⟨hlock, rfl⟩, fun hunlocked hlock => absurd hlock (Bool.eq_false_iff.mp hunlocked)⟩

end Sys2Proof.Machine
end

section
/-! SUPPORT. The deframer commands RX_PUSH, FR_READ and FR_POP, one lemma per end of each command (42_deframer.md). -/
namespace Sys2Proof.Machine

/-! ## FR_READ (42_deframer.md R230) -/

section FrRead
variable {x : Half} {s : State} {f : Frame} {rest : List Frame}

theorem exec_frRead_of_empty (h : s.frq = []) : exec (.frRead 0 x) s = failsWith 0x21 0x0B s :=
  (endCommand_check_passed (not_not.mpr rfl)).trans (by rw [h]; rfl)

/-- With a head frame FR_READ comes to the check of the index. -/
theorem exec_frRead_of_cons (h : s.frq = f :: rest) :
    exec (.frRead 0 x) s = endCommand 0x21 s
      (if f.len.toNat ≤ x.toNat then .error .range else .ok (s, (f.payload.getD x.toNat 0).setWidth 32)) :=
  (endCommand_check_passed (not_not.mpr rfl)).trans (by rw [h])

end FrRead

/-- Settles O30, check by check in the order of R230. -/
theorem frReadRule : Obligations.FrReadRule := by
  refine ⟨fun _ _ => rfl, fun ra x s hra => ?badArg, fun x s hempty => exec_frRead_of_empty hempty,
    fun x s f rest hfrq => ⟨fun hrange => ?range, fun hpayload hlen => ?read⟩⟩
  case badArg => exact badArgumentFails (.frRead ra x) s (beq_eq_false_iff_ne.mpr hra)
  case range => exact (exec_frRead_of_cons hfrq).trans (endCommand_check_failed hrange)
  case read =>
    rw [← List.getD_eq_getElem f.payload 0 hpayload]
    exact (exec_frRead_of_cons hfrq).trans (endCommand_check_passed (not_le.mpr hlen))

/-! ## FR_POP (42_deframer.md R232) -/

section FrPop
variable {s : State}

theorem exec_frPop_of_empty (h : s.frq = []) : exec (.frPop 0) s = failsWith 0x22 0x0B s :=
  (endCommand_check_passed (not_not.mpr rfl)).trans (by rw [h]; rfl)

theorem exec_frPop_of_cons {f : Frame} {rest : List Frame} (h : s.frq = f :: rest) :
    exec (.frPop 0) s = endsOk 0x22 0 { s with frq := rest } :=
  (endCommand_check_passed (not_not.mpr rfl)).trans (by rw [h, endCommand_ok_eq_endsOk])

end FrPop

/-- Settles O31, check by check in the order of R232. -/
theorem frPopRule : Obligations.FrPopRule :=
  ⟨fun _ => rfl, fun r s hr => badArgumentFails (.frPop r) s (beq_eq_false_iff_ne.mpr hr),
    fun _ => exec_frPop_of_empty, fun _ _ _ => exec_frPop_of_cons⟩

/-! ## Pushing a frame into FRQ -/

section EmitFrame
variable {op : Byte} {s t : State} {f : Frame} {v : Word}

theorem endCommand_emitFrame_of_full (h : s.frq.length = s.cfg.frDepth) :
    endCommand op s (emitFrame s t f v) = failsWith op 0x11 s :=
  endCommand_check_failed h

theorem endCommand_emitFrame_of_room (h : s.frq.length ≠ s.cfg.frDepth) :
    endCommand op s (emitFrame s t f v) = endsOk op v { t with frq := s.frq ++ [f] } :=
  endCommand_check_passed h

end EmitFrame

/-! ## RX_PUSH (42_deframer.md R220) -/

/-- RVAL of an opcode byte as the plain opcode above one byte of flags. -/
theorem rvalOpcode_eq (opc : Byte) (frameDone : Bool) :
    rvalOpcode opc frameDone = 0#16 ++ opc ++ (0#6 ++ (1#1 ++ BitVec.ofBool frameDone)) := by
  rw [rvalOpcode, BitVec.append_assoc, BitVec.append_assoc, BitVec.cast_cast, BitVec.cast_eq]

/-- RVAL of an opcode byte whose frame it completes: KS_ADV and FRAME_DONE. -/
theorem rvalOpcode_true (opc : Byte) : rvalOpcode opc true = 0#16 ++ opc ++ 3#8 :=
  rvalOpcode_eq opc true

/-- RVAL of an opcode byte whose frame goes on: KS_ADV alone. -/
theorem rvalOpcode_false (opc : Byte) : rvalOpcode opc false = 0#16 ++ opc ++ 2#8 :=
  rvalOpcode_eq opc false

/-- The plain opcode of the raw byte `b` in the session `ks`: KS_DEC's next word taken off it (42_deframer.md R222). -/
abbrev plainOpcode (ks : Session) (b : Byte) : Byte := unmaskOpcode b (ksNext ks.dec).2

section RxPush
variable {b : Byte} {s : State} {ks : Session}

theorem exec_rxPush_of_no_session (h : s.session = none) : exec (.rxPush 0 0 b) s = failsWith 0x20 0x03 s :=
  (endCommand_check_passed (by simp)).trans (by rw [h]; rfl)

/-- In a session RX_PUSH comes to the byte. -/
theorem exec_rxPush_of_session (h : s.session = some ks) :
    exec (.rxPush 0 0 b) s = endCommand 0x20 s (deframeByte ks b s) :=
  (endCommand_check_passed (by simp)).trans (by rw [h])

/-! ### Phase OPC -/

theorem exec_rxPush_opc (hks : s.session = some ks) (hphase : s.dfPhase = .opc) :
    exec (.rxPush 0 0 b) s = endCommand 0x20 s (deframeOpcode ks b s) := by
  rw [exec_rxPush_of_session hks, deframeByte, hphase]

theorem exec_rxPush_opc_full (hks : s.session = some ks) (hphase : s.dfPhase = .opc)
    (hvar : (s.table.get (plainOpcode ks b)).var = false) (hlen : (s.table.get (plainOpcode ks b)).len = 0)
    (hfull : s.frq.length = s.cfg.frDepth) : exec (.rxPush 0 0 b) s = failsWith 0x20 0x11 s := by
  rw [exec_rxPush_opc hks hphase, deframeOpcode, if_pos ⟨hvar, hlen⟩, endCommand_emitFrame_of_full hfull]

/-- The opcode byte of a fixed frame of length 0 completes it. -/
theorem exec_rxPush_opc_done (hks : s.session = some ks) (hphase : s.dfPhase = .opc)
    (hvar : (s.table.get (plainOpcode ks b)).var = false) (hlen : (s.table.get (plainOpcode ks b)).len = 0)
    (hroom : s.frq.length ≠ s.cfg.frDepth) :
    exec (.rxPush 0 0 b) s = endsOk 0x20 (0#16 ++ plainOpcode ks b ++ 3#8)
      { s with session := some ks.advanceDec, frq := s.frq ++ [⟨plainOpcode ks b, 0, []⟩] } := by
  rw [exec_rxPush_opc hks hphase, deframeOpcode, if_pos ⟨hvar, hlen⟩, endCommand_emitFrame_of_room hroom,
    ← rvalOpcode_true]
  rfl

/-- The opcode byte of a variable frame: the length byte comes next. -/
theorem exec_rxPush_opc_variable (hks : s.session = some ks) (hphase : s.dfPhase = .opc)
    (hvar : (s.table.get (plainOpcode ks b)).var = true) :
    exec (.rxPush 0 0 b) s = endsOk 0x20 (0#16 ++ plainOpcode ks b ++ 2#8)
      { s with session := some ks.advanceDec, dfOpc := plainOpcode ks b, dfPhase := .len } := by
  rw [exec_rxPush_opc hks hphase, deframeOpcode, if_neg (by simp [hvar]), if_pos hvar, ← rvalOpcode_false]
  rfl

/-- The opcode byte of a fixed frame that has a payload. -/
theorem exec_rxPush_opc_fixed (hks : s.session = some ks) (hphase : s.dfPhase = .opc)
    (hvar : (s.table.get (plainOpcode ks b)).var = false) (hlen : (s.table.get (plainOpcode ks b)).len ≠ 0) :
    exec (.rxPush 0 0 b) s = endsOk 0x20 (0#16 ++ plainOpcode ks b ++ 2#8)
      { s with
        session := some ks.advanceDec, dfOpc := plainOpcode ks b, dfLen := (s.table.get (plainOpcode ks b)).len,
        dfCnt := 0, dfPhase := .pay } := by
  rw [exec_rxPush_opc hks hphase, deframeOpcode, if_neg (fun h => hlen h.2), if_neg (by simp [hvar]),
    ← rvalOpcode_false]
  rfl

/-! ### Phase LEN -/

theorem exec_rxPush_len (hks : s.session ≠ none) (hphase : s.dfPhase = .len) :
    exec (.rxPush 0 0 b) s = endCommand 0x20 s (deframeLength b s) := by
  obtain ⟨ks, hks⟩ := Option.ne_none_iff_exists'.mp hks
  rw [exec_rxPush_of_session hks, deframeByte, hphase]

theorem exec_rxPush_len_full (hks : s.session ≠ none) (hphase : s.dfPhase = .len)
    (hfull : s.frq.length = s.cfg.frDepth) : exec (.rxPush 0 0 0) s = failsWith 0x20 0x11 s := by
  rw [exec_rxPush_len hks hphase, deframeLength, if_pos rfl, endCommand_emitFrame_of_full hfull]

/-- A length byte of 0 completes the frame. -/
theorem exec_rxPush_len_done (hks : s.session ≠ none) (hphase : s.dfPhase = .len)
    (hroom : s.frq.length ≠ s.cfg.frDepth) :
    exec (.rxPush 0 0 0) s = endsOk 0x20 1
      { s with frq := s.frq ++ [⟨s.dfOpc, 0, []⟩], dfPhase := .opc, dfOpc := 0 } := by
  rw [exec_rxPush_len hks hphase, deframeLength, if_pos rfl, endCommand_emitFrame_of_room hroom]

theorem exec_rxPush_len_nonzero (hks : s.session ≠ none) (hphase : s.dfPhase = .len) (hb : b ≠ 0) :
    exec (.rxPush 0 0 b) s = endsOk 0x20 0 { s with dfLen := b, dfCnt := 0, dfPhase := .pay } := by
  rw [exec_rxPush_len hks hphase, deframeLength, if_neg hb, endCommand_ok_eq_endsOk]

/-! ### Phase PAY -/

theorem exec_rxPush_pay (hks : s.session ≠ none) (hphase : s.dfPhase = .pay) :
    exec (.rxPush 0 0 b) s = endCommand 0x20 s (deframePayload b s) := by
  obtain ⟨ks, hks⟩ := Option.ne_none_iff_exists'.mp hks
  rw [exec_rxPush_of_session hks, deframeByte, hphase]

theorem exec_rxPush_pay_full (hks : s.session ≠ none) (hphase : s.dfPhase = .pay)
    (hlast : s.dfCnt.toNat + 1 = s.dfLen.toNat) (hfull : s.frq.length = s.cfg.frDepth) :
    exec (.rxPush 0 0 b) s = failsWith 0x20 0x11 s := by
  rw [exec_rxPush_pay hks hphase, deframePayload, if_pos hlast, endCommand_emitFrame_of_full hfull]

/-- The last payload byte completes the frame. -/
theorem exec_rxPush_pay_done (hks : s.session ≠ none) (hphase : s.dfPhase = .pay)
    (hlast : s.dfCnt.toNat + 1 = s.dfLen.toNat) (hroom : s.frq.length ≠ s.cfg.frDepth) :
    exec (.rxPush 0 0 b) s = endsOk 0x20 1
      { s with
        frq := s.frq ++ [⟨s.dfOpc, s.dfLen, s.dfBuf.take s.dfCnt.toNat ++ [b]⟩], dfPhase := .opc, dfOpc := 0,
        dfLen := 0, dfCnt := 0 } := by
  rw [exec_rxPush_pay hks hphase, deframePayload, if_pos hlast, endCommand_emitFrame_of_room hroom]

theorem exec_rxPush_pay_stored (hks : s.session ≠ none) (hphase : s.dfPhase = .pay)
    (hmore : s.dfCnt.toNat + 1 ≠ s.dfLen.toNat) :
    exec (.rxPush 0 0 b) s = endsOk 0x20 0
      { s with dfBuf := s.dfBuf.write s.dfCnt.toNat b, dfCnt := s.dfCnt + 1 } := by
  rw [exec_rxPush_pay hks hphase, deframePayload, if_neg hmore, endCommand_ok_eq_endsOk]

end RxPush

/-- Settles O27, end by end of each phase. -/
theorem rxPushRule : Obligations.RxPushRule := by
  refine ⟨fun _ _ _ => rfl, fun ra rb b s hreserved => ?badArg, fun b s => exec_rxPush_of_no_session, ?opc,
    fun b s hks hphase => ?len, fun b s hks hphase hwf => ?pay⟩
  case badArg =>
    have hbad : (Instr.rxPush ra rb b).wellFormed = false := by
      simpa [Instr.wellFormed, imp_iff_not_or] using hreserved
    exact badArgumentFails (.rxPush ra rb b) s hbad
  case opc =>
    rintro b s ks opc e hks hphase rfl rfl
    exact ⟨exec_rxPush_opc_full hks hphase, exec_rxPush_opc_done hks hphase, exec_rxPush_opc_variable hks hphase,
      exec_rxPush_opc_fixed hks hphase⟩
  case len =>
    refine ⟨?_, ?_, exec_rxPush_len_nonzero hks hphase⟩
    · rintro rfl
      exact exec_rxPush_len_full hks hphase
    · rintro rfl
      exact exec_rxPush_len_done hks hphase
  case pay =>
    refine ⟨exec_rxPush_pay_full hks hphase, exec_rxPush_pay_done hks hphase, fun hmore => ?_⟩
    exact ⟨_, exec_rxPush_pay_stored hks hphase hmore, s.dfBuf.read_write_same hwf _ b,
      fun _ => s.dfBuf.read_write_other b, rfl⟩

/-- Settles O28: no byte but an opcode advances a keystream (`exec_session`), and the length byte is taken as it is. -/
theorem lengthByteIsNotMasked : Obligations.LengthByteIsNotMasked := by
  intro b s t hks hphase hexec
  refine ⟨?session, fun hb => ?payload, ?done⟩
  case session => simpa [sessionAfter, hphase] using exec_session hexec
  case payload =>
    cases (exec_rxPush_len_nonzero hks hphase hb).symm.trans hexec
    exact ⟨rfl, rfl⟩
  case done =>
    rintro rfl hroom
    cases (exec_rxPush_len_done hks hphase hroom).symm.trans hexec
    exact ⟨rfl, rfl⟩

end Sys2Proof.Machine
end

section
/-! SUPPORT. The deframer computes its functional reading (42_deframer.md R227): one byte pushed leaves of the reading of
all bytes that of the rest, in every phase; the statement is the induction over the bytes. -/
namespace Sys2Proof.Machine

/-! ## The functional reading from inside a frame -/

section Reading
variable (table : Array256 TableEntry) (fuel : Nat) (k : KsState)

/-- `deframe` from inside the payload of a frame of which the bytes `got` have come. -/
def finishFrame (opc len : Byte) (got bytes : List Byte) : List Frame × KsState × Phase :=
  if len.toNat - got.length ≤ bytes.length then
    let out := deframe table fuel k (bytes.drop (len.toNat - got.length))
    (⟨opc, len, got ++ bytes.take (len.toNat - got.length)⟩ :: out.1, out.2)
  else ([], k, .pay)

/-- `deframe` from the length byte of a variable frame. -/
def finishVariable (opc : Byte) : List Byte → List Frame × KsState × Phase
  | [] => ([], k, .len)
  | n :: more => finishFrame table fuel k opc n [] more

/-- The functional reading of `bytes`, going on with the frame in progress in `s`. -/
def State.reading (s : State) (bytes : List Byte) : List Frame × KsState × Phase :=
  match s.dfPhase with
  | .opc => deframe s.table fuel k bytes
  | .len => finishVariable s.table fuel k s.dfOpc bytes
  | .pay => finishFrame s.table fuel k s.dfOpc s.dfLen (s.dfBuf.take s.dfCnt.toNat) bytes

variable {table fuel k}

@[simp] theorem deframe_nil : deframe table fuel k [] = ([], k, .opc) := by
  cases fuel <;> rfl

/-- An opcode byte of a fixed frame. -/
theorem deframe_fixed {ks : Session} {b : Byte} {bs : List Byte}
    (hvar : (table.get (plainOpcode ks b)).var = false) :
    deframe table (fuel + 1) ks.dec (b :: bs) =
      finishFrame table fuel ks.advanceDec.dec (plainOpcode ks b) (table.get (plainOpcode ks b)).len [] bs :=
  if_pos hvar

/-- An opcode byte of a variable frame. -/
theorem deframe_variable {ks : Session} {b : Byte} {bs : List Byte}
    (hvar : (table.get (plainOpcode ks b)).var = true) :
    deframe table (fuel + 1) ks.dec (b :: bs) =
      finishVariable table fuel ks.advanceDec.dec (plainOpcode ks b) bs := by
  cases bs <;> exact if_neg (Bool.not_eq_false _ ▸ hvar)

section FinishFrame
variable {opc len : Byte} {got bytes : List Byte}

/-- A payload that is whole makes a frame. -/
theorem finishFrame_of_whole (h : got.length = len.toNat) :
    finishFrame table fuel k opc len got bytes =
      (⟨opc, len, got⟩ :: (deframe table fuel k bytes).1, (deframe table fuel k bytes).2) := by
  simp [finishFrame, h]

/-- A payload that lacks bytes is held. -/
theorem finishFrame_nil (h : got.length < len.toNat) : finishFrame table fuel k opc len got [] = ([], k, .pay) :=
  if_neg (Nat.not_le.mpr (Nat.sub_pos_of_lt h))

/-- A payload that lacks bytes takes the next one. -/
theorem finishFrame_cons {b : Byte} (h : got.length < len.toNat) :
    finishFrame table fuel k opc len got (b :: bytes) = finishFrame table fuel k opc len (got ++ [b]) bytes := by
  obtain ⟨n, hn⟩ : ∃ n, len.toNat - got.length = n + 1 := ⟨len.toNat - got.length - 1, by omega⟩
  have hn' : len.toNat - (got.length + 1) = n := by omega
  simp only [finishFrame, List.length_append, List.length_singleton, hn, hn']
  simp

end FinishFrame

theorem reading_opc {s : State} {bytes : List Byte} (h : s.dfPhase = .opc) :
    s.reading fuel k bytes = deframe s.table fuel k bytes := by
  rw [State.reading, h]

theorem reading_len {s : State} {bytes : List Byte} (h : s.dfPhase = .len) :
    s.reading fuel k bytes = finishVariable s.table fuel k s.dfOpc bytes := by
  rw [State.reading, h]

theorem reading_pay {s : State} {bytes : List Byte} (h : s.dfPhase = .pay) :
    s.reading fuel k bytes = finishFrame s.table fuel k s.dfOpc s.dfLen (s.dfBuf.take s.dfCnt.toNat) bytes := by
  rw [State.reading, h]

end Reading

/-- Writing the byte after the first `n` extends them (42_deframer.md R220, DF_BUF[DF_CNT]). -/
theorem Memory.take_write {m : Memory} (hm : m.wf = true) (n : Nat) (b : Byte) :
    (m.write n b).take (n + 1) = m.take n ++ [b] := by
  have hkept : (List.range n).map (m.write n b).read = (List.range n).map m.read :=
    List.map_congr_left fun a ha => m.read_write_other b (List.mem_range.mp ha).ne
  simp [Memory.take, List.range_succ, hkept, Memory.read_write_same hm]

/-! ## Receiving -/

/-- The deframer of `s` takes bytes in the session `ks`: its parts of `State.Inv`. -/
structure State.Receiving (s : State) (ks : Session) : Prop where
  session : s.session = some ks
  dfBuf_wf : s.dfBuf.wf = true
  phase_pay : s.dfPhase = .pay → s.dfCnt.toNat < s.dfLen.toNat

theorem State.Receiving.session_ne_none {s : State} {ks : Session} (h : s.Receiving ks) : s.session ≠ none :=
  Option.ne_none_iff_exists'.mpr ⟨ks, h.session⟩

/-- Bytes that ran out leave the phase of `s`. -/
theorem State.Receiving.reading_nil {s : State} {ks : Session} (h : s.Receiving ks) (fuel : Nat) (k : KsState) :
    s.reading fuel k [] = ([], k, s.dfPhase) := by
  cases hphase : s.dfPhase with
  | opc => rw [reading_opc hphase, deframe_nil]
  | len => rw [reading_len hphase, finishVariable]
  | pay => rw [reading_pay hphase, finishFrame_nil (by simpa using h.phase_pay hphase)]

/-- `t`, in the session `ks'`, is what bytes that complete the frames `fs` make of `s`. -/
structure Receives (s t : State) (ks ks' : Session) (fs : List Frame) : Prop where
  receiving : t.Receiving ks'
  frq : t.frq = s.frq ++ fs
  enc : ks'.enc = ks.enc
  cfg : t.cfg = s.cfg
  table : t.table = s.table
  txq : t.txq = s.txq
  txBuf : t.txBuf = s.txBuf

theorem Receives.refl {s : State} {ks : Session} (h : s.Receiving ks) : Receives s s ks ks [] :=
  ⟨h, (List.append_nil _).symm, rfl, rfl, rfl, rfl, rfl⟩

theorem Receives.trans {s t u : State} {ks ks' ks'' : Session} {fs fs' : List Frame} (h : Receives s t ks ks' fs)
    (h' : Receives t u ks' ks'' fs') : Receives s u ks ks'' (fs ++ fs') where
  receiving := h'.receiving
  frq := by rw [h'.frq, h.frq, List.append_assoc]
  enc := h'.enc.trans h.enc
  cfg := h'.cfg.trans h.cfg
  table := h'.table.trans h.table
  txq := h'.txq.trans h.txq
  txBuf := h'.txBuf.trans h.txBuf

/-! ## One byte -/

/-- Pushing `b` completes the first frames of the reading of `b :: bs` and leaves the reading of `bs`. -/
def ReadsByte (s : State) (ks : Session) (fuel : Nat) (b : Byte) (bs : List Byte) : Prop :=
  ∃ t ks' fs fuel', exec (.rxPush 0 0 b) s = .next t ∧ Receives s t ks ks' fs ∧ bs.length ≤ fuel' ∧
    s.reading fuel ks.dec (b :: bs) =
      (fs ++ (t.reading fuel' ks'.dec bs).1, (t.reading fuel' ks'.dec bs).2)

/-- FRQ has room for the frames of the reading. -/
def HasRoom (s : State) (out : List Frame × KsState × Phase) : Prop := s.frq.length + out.1.length ≤ s.cfg.frDepth

section OneByte
variable {s : State} {ks : Session} {fuel : Nat} {b : Byte} {bs : List Byte}

/-- Where the reading has a frame, FRQ has room to push one. -/
theorem HasRoom.ne_frDepth {f : Frame} {fs : List Frame} {out : KsState × Phase} (h : HasRoom s (f :: fs, out)) :
    s.frq.length ≠ s.cfg.frDepth := by
  simp only [HasRoom, List.length_cons] at h
  omega

/-- A byte that completes a frame: the next one is an opcode byte. -/
theorem readsByte_of_frame {t : State} {ks' : Session} {f : Frame} {fuel' : Nat}
    (hread : s.reading fuel ks.dec (b :: bs) =
      (f :: (deframe s.table fuel' ks'.dec bs).1, (deframe s.table fuel' ks'.dec bs).2))
    (hexec : exec (.rxPush 0 0 b) s = .next t) (hphase : t.dfPhase = .opc) (hfuel : bs.length ≤ fuel')
    (hreceives : Receives s t ks ks' [f]) : ReadsByte s ks fuel b bs := by
  rw [← hreceives.table, ← reading_opc hphase] at hread
  exact ⟨t, ks', [f], fuel', hexec, hreceives, hfuel, hread⟩

/-- A byte after which the frame goes on. -/
theorem readsByte_of_held {t : State} {ks' : Session} {fuel' : Nat}
    (hexec : exec (.rxPush 0 0 b) s = .next t) (hread : s.reading fuel ks.dec (b :: bs) = t.reading fuel' ks'.dec bs)
    (hfuel : bs.length ≤ fuel') (hreceives : Receives s t ks ks' []) : ReadsByte s ks fuel b bs :=
  ⟨t, ks', [], fuel', hexec, hreceives, hfuel, hread⟩

theorem readsByte_opc (h : s.Receiving ks) (hphase : s.dfPhase = .opc) (hfuel : bs.length ≤ fuel)
    (hroom : HasRoom s (s.reading (fuel + 1) ks.dec (b :: bs))) : ReadsByte s ks (fuel + 1) b bs := by
  have hread := reading_opc (fuel := fuel + 1) (k := ks.dec) (bytes := b :: bs) hphase
  cases hvar : (s.table.get (plainOpcode ks b)).var with
  | true =>
    rw [deframe_variable hvar] at hread
    exact readsByte_of_held (exec_rxPush_opc_variable h.session hphase hvar) hread hfuel
      ⟨⟨rfl, h.dfBuf_wf, nofun⟩, (List.append_nil _).symm, rfl, rfl, rfl, rfl, rfl⟩
  | false =>
    rw [deframe_fixed hvar] at hread
    by_cases hlen : (s.table.get (plainOpcode ks b)).len = 0
    · rw [hlen, finishFrame_of_whole rfl] at hread
      exact readsByte_of_frame hread
        (exec_rxPush_opc_done h.session hphase hvar hlen (hread ▸ hroom).ne_frDepth) hphase hfuel
        ⟨⟨rfl, h.dfBuf_wf, h.phase_pay⟩, rfl, rfl, rfl, rfl, rfl, rfl⟩
    · exact readsByte_of_held (exec_rxPush_opc_fixed h.session hphase hvar hlen) hread hfuel
        ⟨⟨rfl, h.dfBuf_wf, fun _ => BitVec.toNat_pos_of_ne_zero hlen⟩,
         (List.append_nil _).symm, rfl, rfl, rfl, rfl, rfl⟩

theorem readsByte_len (h : s.Receiving ks) (hphase : s.dfPhase = .len) (hfuel : bs.length ≤ fuel)
    (hroom : HasRoom s (s.reading fuel ks.dec (b :: bs))) : ReadsByte s ks fuel b bs := by
  have hread := reading_len (fuel := fuel) (k := ks.dec) (bytes := b :: bs) hphase
  rw [finishVariable] at hread
  by_cases hb : b = 0
  · subst hb
    rw [finishFrame_of_whole rfl] at hread
    exact readsByte_of_frame hread
      (exec_rxPush_len_done h.session_ne_none hphase (hread ▸ hroom).ne_frDepth) rfl hfuel
      ⟨⟨h.session, h.dfBuf_wf, nofun⟩, rfl, rfl, rfl, rfl, rfl, rfl⟩
  · exact readsByte_of_held (exec_rxPush_len_nonzero h.session_ne_none hphase hb) hread hfuel
      ⟨⟨h.session, h.dfBuf_wf, fun _ => BitVec.toNat_pos_of_ne_zero hb⟩,
       (List.append_nil _).symm, rfl, rfl, rfl, rfl, rfl⟩

theorem readsByte_pay (h : s.Receiving ks) (hphase : s.dfPhase = .pay) (hfuel : bs.length ≤ fuel)
    (hroom : HasRoom s (s.reading fuel ks.dec (b :: bs))) : ReadsByte s ks fuel b bs := by
  have hcnt := h.phase_pay hphase
  have hread := reading_pay (fuel := fuel) (k := ks.dec) (bytes := b :: bs) hphase
  rw [finishFrame_cons (by simpa using hcnt)] at hread
  by_cases hlast : s.dfCnt.toNat + 1 = s.dfLen.toNat
  · rw [finishFrame_of_whole (by simpa using hlast)] at hread
    exact readsByte_of_frame hread
      (exec_rxPush_pay_done h.session_ne_none hphase hlast (hread ▸ hroom).ne_frDepth) rfl hfuel
      ⟨⟨h.session, h.dfBuf_wf, nofun⟩, rfl, rfl, rfl, rfl, rfl, rfl⟩
  · have hsucc : (s.dfCnt + 1).toNat = s.dfCnt.toNat + 1 := by bv_omega
    have hcnt' : (s.dfCnt + 1).toNat < s.dfLen.toNat := by omega
    rw [← Memory.take_write h.dfBuf_wf, ← hsucc] at hread
    refine readsByte_of_held (exec_rxPush_pay_stored h.session_ne_none hphase hlast) (hread.trans ?_) hfuel
      ⟨⟨h.session, Memory.write_wf h.dfBuf_wf _ b, fun _ => hcnt'⟩,
       (List.append_nil _).symm, rfl, rfl, rfl, rfl, rfl⟩
    exact Eq.symm (reading_pay hphase)

/-- In every phase the deframer takes a byte as its functional reading does (42_deframer.md R220, R227). -/
theorem readsByte (h : s.Receiving ks) (hfuel : bs.length < fuel)
    (hroom : HasRoom s (s.reading fuel ks.dec (b :: bs))) : ReadsByte s ks fuel b bs := by
  cases hphase : s.dfPhase with
  | opc =>
    obtain ⟨n, rfl⟩ := Nat.exists_eq_add_of_lt hfuel
    exact readsByte_opc h hphase (Nat.le_add_right _ n) hroom
  | len => exact readsByte_len h hphase hfuel.le hroom
  | pay => exact readsByte_pay h hphase hfuel.le hroom

end OneByte

/-! ## All bytes -/

theorem rxPushAll_cons {b : Byte} {bs : List Byte} {s t : State} (h : exec (.rxPush 0 0 b) s = .next t) :
    rxPushAll (b :: bs) s = rxPushAll bs t := by
  rw [rxPushAll, h]

/-- From any phase, while FRQ has room, pushing the bytes gives their functional reading. -/
theorem rxPushAll_reading (bytes : List Byte) {s : State} {ks : Session} {fuel : Nat} (h : s.Receiving ks)
    (hfuel : bytes.length ≤ fuel) (hroom : HasRoom s (s.reading fuel ks.dec bytes)) :
    ∃ t ks', rxPushAll bytes s = .next t ∧ Receives s t ks ks' (s.reading fuel ks.dec bytes).1
      ∧ (s.reading fuel ks.dec bytes).2 = (ks'.dec, t.dfPhase) := by
  induction bytes generalizing s ks fuel with
  | nil =>
    rw [h.reading_nil]
    exact ⟨s, ks, rfl, .refl h, rfl⟩
  | cons b bs ih =>
    obtain ⟨t, ks', fs, fuel', hexec, hstep, hfuel', hread⟩ := readsByte h hfuel hroom
    rw [hread] at hroom ⊢
    have hroom' : HasRoom t (t.reading fuel' ks'.dec bs) := by
      simpa only [HasRoom, hstep.frq, hstep.cfg, List.length_append, Nat.add_assoc] using hroom
    obtain ⟨u, ks'', hrest, hreceives, hend⟩ := ih hstep.receiving hfuel' hroom'
    exact ⟨u, ks'', (rxPushAll_cons hexec).trans hrest, hstep.trans hreceives, hend⟩

/-- Settles O29: in phase OPC no frame is in progress, so the reading is `deframe` of all the bytes. -/
theorem deframerComputesDeframe : Obligations.DeframerComputesDeframe := by
  intro bytes s ks hks hphase hwf hroom
  have hreceiving : s.Receiving ks := ⟨hks, hwf, fun hpay => absurd (hphase.symm.trans hpay) nofun⟩
  rw [← reading_opc hphase] at hroom ⊢
  obtain ⟨t, ks', hpush, hreceives, hend⟩ := rxPushAll_reading bytes hreceiving le_rfl hroom
  rw [hend]
  exact ⟨t, hpush, hreceives.frq, by rw [hreceives.receiving.session, ← hreceives.enc], rfl, hreceives.table,
    hreceives.txq, hreceives.txBuf⟩

end Sys2Proof.Machine
end

section
/-! SUPPORT. The framer commands TX_BEGIN to WR_PLACEHOLDER (43_framer.md): the builder's checks, the byte writes and
the bit writes once each, then every command by its checks. -/
namespace Sys2Proof.Machine

/-! ## The checks before a framer command's own (43_framer.md R254) -/

section BuilderChecks
variable {op : Byte} {s : State} {r : CmdEnd}

theorem endCommand_reserved_zero {n : Nat} {e : ErrorCode} :
    endCommand op s (if (0 : BitVec n) ≠ 0 then .error e else r) = endCommand op s r :=
  endCommand_check_passed (not_not.mpr rfl)

theorem endCommand_builder_closed (hclosed : s.txOpen = false) :
    endCommand op s (if s.txOpen = false then .error .notOpen else r) = failsWith op 0x08 s :=
  endCommand_check_failed hclosed

theorem endCommand_builder_open (hopen : s.txOpen = true) :
    endCommand op s (if s.txOpen = false then .error .notOpen else r) = endCommand op s r :=
  endCommand_check_passed (ne_false_of_eq_true hopen)

/-- The builder is in the mode `b` that the command does not work in. -/
theorem endCommand_mode_failed {b : Bool} (hopen : s.txOpen = true) (hmode : s.txBitMode = b) :
    endCommand op s (if s.txOpen = false then .error .notOpen else if s.txBitMode = b then .error .mode else r) =
      failsWith op 0x0A s :=
  (endCommand_builder_open hopen).trans (endCommand_check_failed hmode)

/-- The builder is in the other mode. -/
theorem endCommand_mode_passed {b : Bool} (hopen : s.txOpen = true) (hmode : s.txBitMode = !b) :
    endCommand op s (if s.txOpen = false then .error .notOpen else if s.txBitMode = b then .error .mode else r) =
      endCommand op s r :=
  (endCommand_builder_open hopen).trans (endCommand_check_passed (by simp [hmode]))

end BuilderChecks

/-! ## The cursors (10_state.md R38) -/

/-- A byte cursor within TX_CAP fits its 16 bits. -/
theorem toNat_bytePos {p : Params} (hlegal : p.Legal) {n : Nat} (h : n ≤ p.txCap) :
    (BitVec.ofNat 16 n).toNat = n := by
  have hcap : p.txCap ≤ 65535 := hlegal.txCap_le
  rw [BitVec.toNat_ofNat, Nat.mod_eq_of_lt (by omega)]

/-- A bit cursor within TX_CAP fits its 19 bits. -/
theorem toNat_bitPos {p : Params} (hlegal : p.Legal) {n : Nat} (h : n ≤ 8 * p.txCap) :
    (BitVec.ofNat 19 n).toNat = n := by
  have hcap : p.txCap ≤ 65535 := hlegal.txCap_le
  rw [BitVec.toNat_ofNat, Nat.mod_eq_of_lt (by omega)]

/-! ## The byte writes (43_framer.md R268) -/

/-- In byte mode `PutBytes` comes to the check of the room in TX_BUF. -/
theorem endCommand_putBytes_of_byteMode {op : Byte} {bs : List Byte} {s : State} (hopen : s.txOpen = true)
    (hbytes : s.txBitMode = false) :
    endCommand op s (putBytes bs s) = endCommand op s
      (if s.txBytePos.toNat + bs.length > s.cfg.txCap then .error .overflow
        else .ok ({ s with
          txBuf := s.txBuf.writeBytes s.txBytePos.toNat bs
          txBytePos := BitVec.ofNat 16 (s.txBytePos.toNat + bs.length) }, 0)) :=
  endCommand_mode_passed hopen hbytes

/-- A command that comes to `PutBytes` appends its bytes. -/
theorem appendsBytes_of_putBytes {i : Instr} {op : Byte} {bs : List Byte} {s : State}
    (hexec : exec i s = endCommand op s (putBytes bs s)) (hlegal : s.cfg.Legal) (hwf : s.txBuf.wf = true) :
    AppendsBytes i op bs s := by
  refine ⟨fun hclosed => ?notOpen, fun hopen hbits => ?mode, fun hopen hbytes hlong => ?overflow,
    fun hopen hbytes hroom => ?written⟩
  case notOpen => exact hexec.trans (endCommand_builder_closed hclosed)
  case mode => exact hexec.trans (endCommand_mode_failed hopen hbits)
  case overflow =>
    exact hexec.trans ((endCommand_putBytes_of_byteMode hopen hbytes).trans (endCommand_check_failed hlong))
  case written =>
    have hnext : exec i s = endsOk op 0 { s with
        txBuf := s.txBuf.writeBytes s.txBytePos.toNat bs
        txBytePos := BitVec.ofNat 16 (s.txBytePos.toNat + bs.length) } :=
      hexec.trans ((endCommand_putBytes_of_byteMode hopen hbytes).trans (endCommand_check_passed (not_lt.mpr hroom)))
    exact ⟨_, hnext, fun _ => Memory.read_writeBytes_inside hwf _ bs,
      fun _ => Memory.read_writeBytes_outside s.txBuf _ bs, toNat_bytePos hlegal hroom, rfl⟩

/-! ## WR_BYTE (43_framer.md R270) -/

/-- Settles O38: with its reserved fields zero WR_BYTE is `PutBytes` of its one byte. -/
theorem wrByteRule : Obligations.WrByteRule := by
  refine ⟨fun _ _ _ => rfl, fun ra rb v s hreserved => ?badArg, fun v s => ?appends⟩
  case badArg => exact endCommand_check_failed hreserved
  case appends => exact appendsBytes_of_putBytes (endCommand_check_passed (by simp))

/-! ## WR_SHORT_BE and WR_SHORT_LE (43_framer.md R272, R274) -/

theorem bytesShortBe_append (hi lo : Byte) : bytesShortBe (hi ++ lo) = [hi, lo] := by
  rw [bytesShortBe, BitVec.extractLsb'_append_eq_left, BitVec.extractLsb'_append_eq_right]

/-- The little-endian order is the big-endian one reversed. -/
theorem bytesShortLe_eq_reverse (v : Half) : bytesShortLe v = (bytesShortBe v).reverse := rfl

theorem bytesShortLe_append (hi lo : Byte) : bytesShortLe (hi ++ lo) = [lo, hi] := by
  rw [bytesShortLe_eq_reverse, bytesShortBe_append]
  rfl

/-- Settles O39: the two commands differ in the order of the bytes they give `PutBytes`. -/
theorem wrShortRules : Obligations.WrShortRules := by
  refine ⟨fun _ _ => ⟨rfl, rfl⟩, fun ra v s hra => ?badArg, fun hi lo s hlegal hwf => ?appends⟩
  case badArg => exact ⟨endCommand_check_failed hra, endCommand_check_failed hra⟩
  case appends =>
    rw [← bytesShortBe_append hi lo, ← bytesShortLe_append hi lo]
    exact ⟨appendsBytes_of_putBytes endCommand_reserved_zero hlegal hwf,
      appendsBytes_of_putBytes endCommand_reserved_zero hlegal hwf⟩

/-! ## WR_INT_BE and WR_LONG_BE (43_framer.md R276, R278) -/

/-- A byte above the lowest one is a byte of what stands above it. -/
theorem extractLsb'_append_byte {w : Nat} (x : BitVec w) (b : Byte) (k : Nat) :
    (x ++ b).extractLsb' (k + 8) 8 = x.extractLsb' k 8 := by
  rw [BitVec.extractLsb'_append_eq_of_le (Nat.le_add_left 8 k), Nat.add_sub_cancel]

theorem bytesIntBe_append (b3 b2 b1 b0 : Byte) : bytesIntBe (b3 ++ b2 ++ b1 ++ b0) = [b3, b2, b1, b0] := by
  have h3 : (b3 ++ b2 ++ b1 ++ b0).extractLsb' 24 8 = b3 := by
    rw [extractLsb'_append_byte, extractLsb'_append_byte, BitVec.extractLsb'_append_eq_left]
  have h2 : (b3 ++ b2 ++ b1 ++ b0).extractLsb' 16 8 = b2 := by
    rw [extractLsb'_append_byte, extractLsb'_append_byte, BitVec.extractLsb'_append_eq_right]
  have h1 : (b3 ++ b2 ++ b1 ++ b0).extractLsb' 8 8 = b1 := by
    rw [extractLsb'_append_byte, BitVec.extractLsb'_append_eq_right]
  have h0 : (b3 ++ b2 ++ b1 ++ b0).extractLsb' 0 8 = b0 := BitVec.extractLsb'_append_eq_right
  rw [bytesIntBe, h3, h2, h1, h0]

/-- Settles O40: the bytes are those of DATA0, and those of DATA1 before them. -/
theorem wrIntWrLongRules : Obligations.WrIntWrLongRules := by
  refine ⟨fun _ => ⟨rfl, rfl⟩, fun r s hr => ?badArg,
    fun b7 b6 b5 b4 b3 b2 b1 b0 s hlegal hwf hdata1 hdata0 => ?appends⟩
  case badArg => exact ⟨endCommand_check_failed hr, endCommand_check_failed hr⟩
  case appends =>
    have hint : bytesIntBe s.data0 = [b3, b2, b1, b0] := by rw [hdata0, bytesIntBe_append]
    have hlong : bytesLongBe s.data1 s.data0 = [b7, b6, b5, b4, b3, b2, b1, b0] := by
      rw [bytesLongBe, hint, hdata1, bytesIntBe_append]
      rfl
    rw [← hlong, ← hint]
    exact ⟨appendsBytes_of_putBytes endCommand_reserved_zero hlegal hwf,
      appendsBytes_of_putBytes endCommand_reserved_zero hlegal hwf⟩

/-! ## WR_PLACEHOLDER (43_framer.md R280) -/

/-- In byte mode WR_PLACEHOLDER comes to the check of the room in TX_BUF. -/
theorem exec_wrPlaceholder_of_byteMode {s : State} (hopen : s.txOpen = true) (hbytes : s.txBitMode = false) :
    exec (.wrPlaceholder 0) s = endCommand 0x3A s
      (if s.txBytePos.toNat + 1 > s.cfg.txCap then .error .overflow
        else if s.ph.length = s.cfg.maxPh then .error .phLimit
        else .ok ({ s with
          ph := s.ph ++ [s.txBytePos]
          txBuf := s.txBuf.write s.txBytePos.toNat 0
          txBytePos := BitVec.ofNat 16 (s.txBytePos.toNat + 1) }, 0)) :=
  endCommand_reserved_zero.trans (endCommand_mode_passed hopen hbytes)

/-- With room in TX_BUF it comes to the check of the room in PH. -/
theorem exec_wrPlaceholder_of_room {s : State} (hopen : s.txOpen = true) (hbytes : s.txBitMode = false)
    (hroom : s.txBytePos.toNat + 1 ≤ s.cfg.txCap) :
    exec (.wrPlaceholder 0) s = endCommand 0x3A s
      (if s.ph.length = s.cfg.maxPh then .error .phLimit
        else .ok ({ s with
          ph := s.ph ++ [s.txBytePos]
          txBuf := s.txBuf.write s.txBytePos.toNat 0
          txBytePos := BitVec.ofNat 16 (s.txBytePos.toNat + 1) }, 0)) :=
  (exec_wrPlaceholder_of_byteMode hopen hbytes).trans (endCommand_check_passed (not_lt.mpr hroom))

/-- Settles O41, check by check in the order of R280. -/
theorem wrPlaceholderRule : Obligations.WrPlaceholderRule := by
  refine fun r s hlegal hwf => ⟨fun hr => ?badArg, ?notOpen, ?mode, ?overflow, ?phLimit, ?reserved, rfl⟩
  case badArg => exact badArgumentFails (.wrPlaceholder r) s (beq_eq_false_iff_ne.mpr hr)
  case notOpen =>
    rintro rfl hclosed
    exact endCommand_reserved_zero.trans (endCommand_builder_closed hclosed)
  case mode =>
    rintro rfl hopen hbits
    exact endCommand_reserved_zero.trans (endCommand_mode_failed hopen hbits)
  case overflow =>
    rintro rfl hopen hbytes hlong
    exact (exec_wrPlaceholder_of_byteMode hopen hbytes).trans (endCommand_check_failed hlong)
  case phLimit =>
    rintro rfl hopen hbytes hroom hfull
    exact (exec_wrPlaceholder_of_room hopen hbytes hroom).trans (endCommand_check_failed hfull)
  case reserved =>
    rintro rfl hopen hbytes hroom hph
    exact ⟨_, (exec_wrPlaceholder_of_room hopen hbytes hroom).trans (endCommand_check_passed hph),
      Memory.read_write_same hwf _ 0, fun _ => Memory.read_write_other s.txBuf 0, toNat_bytePos hlegal hroom, rfl⟩

/-! ## TX_BEGIN (43_framer.md R250) -/

/-- Every mode field but 3 names the mode with its number. -/
theorem modeOperand_eq_some {m : BitVec 2} (h : m ≠ 3) : ∃ x, modeOperand m = some x ∧ x.bits = m := by
  have hbits : (modeOperand m).map TxMode.bits = some m := by
    revert m
    decide
  exact Option.map_eq_some_iff.mp hbits

/-- With good arguments TX_BEGIN comes to the check of TX_OPEN. -/
theorem exec_txBegin_of_mode {o : Byte} {m : BitVec 2} {x : TxMode} {s : State} (h : modeOperand m = some x) :
    exec (.txBegin o 0 m) s = endCommand 0x30 s
      (if s.txOpen = true then .error .alreadyOpen else .ok (openBuilder o x s, 0)) :=
  endCommand_reserved_zero.trans (by rw [h])

theorem wellFormed_txBegin_eq_false {o : Byte} {rb : BitVec 14} {m : BitVec 2} :
    (Instr.txBegin o rb m).wellFormed = false ↔ rb ≠ 0 ∨ m = 3 := by
  simp [Instr.wellFormed, Decidable.imp_iff_not_or]

/-- Settles O32, check by check in the order of R250. -/
theorem txBeginRule : Obligations.TxBeginRule := by
  refine fun o rb m s => ⟨fun hbad => ?badArg, ?alreadyOpen, ?opened, rfl⟩
  case badArg => exact badArgumentFails (.txBegin o rb m) s (wellFormed_txBegin_eq_false.mpr hbad)
  case alreadyOpen =>
    rintro rfl hm hopen
    obtain ⟨x, hx, -⟩ := modeOperand_eq_some hm
    exact (exec_txBegin_of_mode hx).trans (endCommand_check_failed hopen)
  case opened =>
    rintro rfl hm hclosed
    obtain ⟨x, hx, hbits⟩ := modeOperand_eq_some hm
    exact ⟨_, (exec_txBegin_of_mode hx).trans (endCommand_check_passed (ne_true_of_eq_false hclosed)), hbits,
      Memory.read_nil, rfl⟩

/-! ## TX_ABORT (43_framer.md R252) -/

/-- Settles O33: the fields the statement lists are those `closeBuilder` clears. -/
theorem txAbortRule : Obligations.TxAbortRule := by
  refine fun r s => ⟨fun hr => ?badArg, ?notOpen, ?aborted, rfl⟩
  case badArg => exact badArgumentFails (.txAbort r) s (beq_eq_false_iff_ne.mpr hr)
  case notOpen =>
    rintro rfl hclosed
    exact endCommand_reserved_zero.trans (endCommand_builder_closed hclosed)
  case aborted =>
    rintro rfl hopen
    exact endCommand_reserved_zero.trans (endCommand_builder_open hopen)

/-! ## BIT_MODE (43_framer.md R256) -/

/-- Settles O34: eight times a byte cursor of 16 bits fits the 19 bits of TX_BITPOS. -/
theorem bitModeRule : Obligations.BitModeRule := by
  refine fun r s => ⟨fun hr => ?badArg, ?notOpen, ?mode, ?entered, rfl⟩
  case badArg => exact badArgumentFails (.bitMode r) s (beq_eq_false_iff_ne.mpr hr)
  case notOpen =>
    rintro rfl hclosed
    exact endCommand_reserved_zero.trans (endCommand_builder_closed hclosed)
  case mode =>
    rintro rfl hopen hbits
    exact endCommand_reserved_zero.trans (endCommand_mode_failed hopen hbits)
  case entered =>
    rintro rfl hopen hbytes
    have hfits : 8 * s.txBytePos.toNat < 2 ^ 19 := by omega
    exact ⟨_, endCommand_reserved_zero.trans (endCommand_mode_passed hopen hbytes),
      (BitVec.toNat_ofNat _ 19).trans (Nat.mod_eq_of_lt hfits), rfl⟩

/-! ## BYTE_MODE (43_framer.md R258) -/

/-- Rounding a bit cursor within TX_CAP up to a byte stays within TX_CAP (43_framer.md R258). -/
theorem ceil8_le {p c : Nat} (h : p ≤ 8 * c) : ceil8 p ≤ c := by
  unfold ceil8
  omega

/-- Settles O35, check by check in the order of R258. -/
theorem byteModeRule : Obligations.ByteModeRule := by
  refine fun r s => ⟨fun hr => ?badArg, ?notOpen, ?mode, ?left, rfl⟩
  case badArg => exact badArgumentFails (.byteMode r) s (beq_eq_false_iff_ne.mpr hr)
  case notOpen =>
    rintro rfl hclosed
    exact endCommand_reserved_zero.trans (endCommand_builder_closed hclosed)
  case mode =>
    rintro rfl hopen hbytes
    exact endCommand_reserved_zero.trans (endCommand_mode_failed hopen hbytes)
  case left =>
    rintro rfl hopen hbits hlegal hpos
    have hcap : ceil8 s.txBitPos.toNat ≤ s.cfg.txCap := ceil8_le hpos
    have hbytePos : (BitVec.ofNat 16 (ceil8 s.txBitPos.toNat)).toNat = ceil8 s.txBitPos.toNat :=
      toNat_bytePos hlegal hcap
    exact ⟨_, endCommand_reserved_zero.trans (endCommand_mode_passed hopen hbits), hbytePos,
      hbytePos.trans_le hcap, rfl⟩

/-! ## The mask and the bits of a value (43_framer.md R264, R266) -/

theorem bitMask_toNat {n : Nat} (h : n ≤ 32) : (bitMask n).toNat = 2 ^ n - 1 := by
  rw [bitMask]
  split_ifs with hall
  · rw [hall]
    rfl
  · have htop : (1#32 <<< n).toNat = 2 ^ n := by
      have hword : 2 ^ n < 2 ^ 32 := Nat.pow_lt_pow_right one_lt_two (lt_of_le_of_ne h hall)
      rw [BitVec.toNat_shiftLeft, BitVec.toNat_one (by decide), Nat.one_shiftLeft, Nat.mod_eq_of_lt hword]
    have hone : (1 : Word) ≤ 1#32 <<< n := BitVec.le_def.mpr (htop ▸ Nat.one_le_two_pow)
    rw [BitVec.toNat_sub_of_le hone, htop]
    rfl

/-- Masking to `n` bits is reduction modulo 2^n. -/
theorem toNat_and_bitMask (v : Word) {n : Nat} (h : n ≤ 32) : (v &&& bitMask n).toNat = v.toNat % 2 ^ n := by
  rw [BitVec.toNat_and, bitMask_toNat h, Nat.and_two_pow_sub_one_eq_mod]

/-- The mask keeps the low `n` bits. -/
theorem getLsbD_and_bitMask (v : Word) {n k : Nat} (h : n ≤ 32) (hk : k < n) :
    (v &&& bitMask n).getLsbD k = v.getLsbD k := by
  rw [BitVec.getLsbD, toNat_and_bitMask v h, Nat.testBit_mod_two_pow, decide_eq_true hk, Bool.true_and, BitVec.getLsbD]

/-- Reading `n` bits most significant first gives the number they are the low bits of, modulo 2^n. -/
theorem foldl_bits_eq_mod {f : Nat → Bool} {n v : Nat} (h : ∀ j < n, f j = v.testBit (n - 1 - j)) :
    (List.range n).foldl (fun x j => 2 * x + (f j).toNat) 0 = v % 2 ^ n := by
  induction n generalizing v with
  | zero => simp [Nat.mod_one]
  | succ n ih =>
    have hhigh : ∀ j < n, f j = (v / 2).testBit (n - 1 - j) := fun j hj => by
      rw [h j (by omega), ← Nat.testBit_succ]
      congr 1
      omega
    have hlast : (f n).toNat = v % 2 := by
      rw [h n (by omega), Nat.add_sub_cancel, Nat.sub_self, Nat.toNat_testBit, pow_zero, Nat.div_one]
    rw [List.range_succ, List.foldl_append, ih hhigh, List.foldl_cons, List.foldl_nil, hlast, pow_succ', Nat.mod_mul,
      Nat.add_comm]

/-- A byte that holds none of the bits written is kept. -/
theorem Memory.read_writeBits_outside (m : Memory) (p : Nat) (v : Word) (n : Nat) {a : Nat}
    (h : 8 * a + 8 ≤ p ∨ p + n ≤ 8 * a) : (m.writeBits p v n).read a = m.read a := by
  induction n generalizing m p with
  | zero => rfl
  | succ n ih => exact (ih (m.writeBit p _) (p + 1) (by omega)).trans (Memory.read_write_other m _ (by omega))

/-! ## WR_BITS (43_framer.md R260) -/

section WrBits
variable {n : Byte} {s : State}

/-- The buffer after WR_BITS: the low `n` bits of DATA0 from the bit cursor. -/
abbrev bitsWritten (n : Byte) (s : State) : Memory :=
  s.txBuf.writeBits s.txBitPos.toNat (s.data0 &&& bitMask n.toNat) n.toNat

/-- With good arguments WR_BITS comes to the builder's checks. -/
theorem exec_wrBits_of_wellFormed (hpos : 1 ≤ n.toNat) (hle : n.toNat ≤ 32) :
    exec (.wrBits n 0) s = endCommand 0x34 s
      (if s.txOpen = false then .error .notOpen
        else if s.txBitMode = false then .error .mode
        else if s.txBitPos.toNat + n.toNat > 8 * s.cfg.txCap then .error .overflow
        else .ok ({ s with
          txBuf := bitsWritten n s, txBitPos := BitVec.ofNat 19 (s.txBitPos.toNat + n.toNat) }, 0)) :=
  endCommand_check_passed (by bv_omega)

/-- In bit mode it comes to the check of the room in TX_BUF. -/
theorem exec_wrBits_of_bitMode (hpos : 1 ≤ n.toNat) (hle : n.toNat ≤ 32) (hopen : s.txOpen = true)
    (hbits : s.txBitMode = true) :
    exec (.wrBits n 0) s = endCommand 0x34 s
      (if s.txBitPos.toNat + n.toNat > 8 * s.cfg.txCap then .error .overflow
        else .ok ({ s with
          txBuf := bitsWritten n s, txBitPos := BitVec.ofNat 19 (s.txBitPos.toNat + n.toNat) }, 0)) :=
  (exec_wrBits_of_wellFormed hpos hle).trans (endCommand_mode_passed hopen hbits)

theorem exec_wrBits_of_room (hpos : 1 ≤ n.toNat) (hle : n.toNat ≤ 32) (hopen : s.txOpen = true)
    (hbits : s.txBitMode = true) (hroom : s.txBitPos.toNat + n.toNat ≤ 8 * s.cfg.txCap) :
    exec (.wrBits n 0) s = endsOk 0x34 0
      { s with txBuf := bitsWritten n s, txBitPos := BitVec.ofNat 19 (s.txBitPos.toNat + n.toNat) } :=
  (exec_wrBits_of_bitMode hpos hle hopen hbits).trans (endCommand_check_passed (not_lt.mpr hroom))

/-- Bit `j` of those written is bit n-1-j of DATA0. -/
theorem readBit_bitsWritten_inside (hwf : s.txBuf.wf = true) (hle : n.toNat ≤ 32) {j : Nat} (hj : j < n.toNat) :
    (bitsWritten n s).readBit (s.txBitPos.toNat + j) = s.data0.getLsbD (n.toNat - 1 - j) := by
  rw [Memory.readBit_writeBits hwf, if_pos (by omega), Nat.add_sub_cancel_left, getLsbD_and_bitMask _ hle (by omega)]

theorem readBit_bitsWritten_outside (hwf : s.txBuf.wf = true) {p : Nat}
    (hp : p < s.txBitPos.toNat ∨ s.txBitPos.toNat + n.toNat ≤ p) :
    (bitsWritten n s).readBit p = s.txBuf.readBit p := by
  rw [Memory.readBit_writeBits hwf, if_neg (by omega)]

end WrBits

/-- Settles O36, check by check in the order of R260. -/
theorem wrBitsRule : Obligations.WrBitsRule := by
  refine fun n rb s hlegal hwf =>
    ⟨fun hbad => endCommand_check_failed hbad, ?notOpen, ?mode, ?overflow, ?written, rfl⟩
  case notOpen =>
    rintro rfl hpos hle hclosed
    exact (exec_wrBits_of_wellFormed hpos hle).trans (endCommand_builder_closed hclosed)
  case mode =>
    rintro rfl hpos hle hopen hbytes
    exact (exec_wrBits_of_wellFormed hpos hle).trans (endCommand_mode_failed hopen hbytes)
  case overflow =>
    rintro rfl hpos hle hopen hbits hlong
    exact (exec_wrBits_of_bitMode hpos hle hopen hbits).trans (endCommand_check_failed hlong)
  case written =>
    rintro rfl hpos hle hopen hbits hroom
    exact ⟨_, exec_wrBits_of_room hpos hle hopen hbits hroom, fun _ => readBit_bitsWritten_inside hwf hle,
      fun _ => readBit_bitsWritten_outside hwf, fun _ => Memory.read_writeBits_outside s.txBuf _ _ _,
      toNat_bitPos hlegal hroom, rfl⟩

/-- Settles O37: the bits read back are the low bits of DATA0, most significant first. -/
theorem bitWriterLaw : Obligations.BitWriterLaw := by
  intro n s hlegal hwf hopen hbits hpos hle hroom
  exact ⟨_, exec_wrBits_of_room hpos hle hopen hbits hroom, toNat_bitPos hlegal hroom,
    foldl_bits_eq_mod fun _ => readBit_bitsWritten_inside hwf hle, fun _ => readBit_bitsWritten_outside hwf⟩

end Sys2Proof.Machine
end

section
/-! SUPPORT. The transmit commands TX_SEND and TX_POP (44_transmit.md): the message TX_SEND queues, part by part, then
each command by its checks. -/
namespace Sys2Proof.Machine

/-! ## The framing bytes (44_transmit.md R304) -/

theorem length_framingBytes (m : TxMode) (n : Nat) : (framingBytes m n).length = m.prefixBytes := by
  cases m <;> rfl

/-- Two framing bytes hold every 16-bit length, high byte first. -/
theorem framingBytes_varShort (n : Half) : framingBytes .varShort n.toNat = bytesShortBe n := by
  have hhigh : BitVec.ofNat 8 (n.toNat / 256) = n.extractLsb' 8 8 := by
    apply BitVec.eq_of_toNat_eq
    simp [Nat.shiftRight_eq_div_pow]
  exact congrArg (· :: _) hhigh

/-! ## The length checks (44_transmit.md R302, R304) -/

/-- A byte cursor fits the two framing bytes of VariableShort, so two causes are left. -/
theorem sendTooLong_iff {s : State} :
    sendTooLong s = true ↔ (s.txMode = .varByte ∧ 255 < s.txBytePos.toNat) ∨
      ∃ p ∈ s.ph, 255 < s.txBytePos.toNat - p.toNat - 1 := by
  have hshort : ¬65535 < s.txBytePos.toNat := by omega
  change _ ↔ _ ∨ ∃ p ∈ s.ph, 255 < placeholderCount s.txBytePos.toNat p
  simp [sendTooLong, hshort]

/-! ## The queued message (44_transmit.md R300) -/

/-- A payload byte is its placeholder's negated count, or the byte of TX_BUF. -/
theorem getElem_finalPayload (s : State) {j : Nat} (h : j < (finalPayload s).length) :
    (finalPayload s)[j] =
      if ∃ p ∈ s.ph, p.toNat = j then negatedCount (s.txBytePos.toNat - j - 1) else s.txBuf.read j := by
  rw [← s.txBuf.getElem_take (by simpa using h)]
  exact getElem_backfill s.txBytePos.toNat s.ph _ h

/-- The TXQ entries of the message TX_SEND queues in the session `ks`. -/
def sentEntries (ks : Session) (s : State) : List TxEntry :=
  markMessage true (outboundMessage s (ksNext ks.enc).2)

/-- What TX_SEND makes of `s` in the session `ks`, all checks passed. -/
def sentState (ks : Session) (s : State) : State :=
  { closeBuilder s with session := some ks.advanceEnc, txq := s.txq ++ sentEntries ks s }

theorem sentEntries_bytes (ks : Session) (s : State) :
    (sentEntries ks s).map TxEntry.byte = outboundMessage s (ksNext ks.enc).2 :=
  markMessage_bytes true _

/-- The first entry alone is marked start and the last alone end. -/
theorem sentEntries_marks (ks : Session) (s : State) {k : Nat} (h : k < (sentEntries ks s).length) :
    (sentEntries ks s)[k].isStart = decide (k = 0) ∧
      (sentEntries ks s)[k].isEnd = decide (k + 1 = (sentEntries ks s).length) := by
  simp only [sentEntries, markMessage_getElem, length_markMessage, Bool.true_and, and_self]

/-- Behind the entries that were queued before stand the bytes of the message. -/
theorem sentState_txq_byte (ks : Session) (s : State) (k : Nat) :
    (sentState ks s).txq[s.txq.length + k]?.map TxEntry.byte = (outboundMessage s (ksNext ks.enc).2)[k]? := by
  have hbehind : (sentState ks s).txq[s.txq.length + k]? = (sentEntries ks s)[k]? :=
    (List.getElem?_append_right (Nat.le_add_right _ _)).trans (by rw [Nat.add_sub_cancel_left])
  rw [hbehind, ← List.getElem?_map, sentEntries_bytes]

/-! ## A command that ends with OK (60_exceptions.md R342) -/

/-- A command that ends with OK ended its pseudocode with `ok` (60_exceptions.md R340, R342). -/
theorem endCommand_ok_of_code {op : Byte} {s t : State} {r : CmdEnd} (h : endCommand op s r = .next t)
    (hcode : t.code = 0) : ∃ u v, r = .ok (u, v) ∧ t = succeed op v u := by
  obtain hok | ⟨e, -, rfl⟩ := endCommand_next.mp h
  · exact hok
  · exact absurd ((raise_code op e s).symm.trans hcode) e.code_ne_zero

/-! ## TX_SEND (44_transmit.md R300) -/

section TxSend
variable {s : State} {ks : Session}

theorem exec_txSend_of_no_session (h : s.session = none) : exec (.txSend 0) s = failsWith 0x40 0x03 s :=
  endCommand_reserved_zero.trans (by rw [h]; rfl)

/-- In a session TX_SEND comes to the builder's checks. -/
theorem exec_txSend_of_session (h : s.session = some ks) :
    exec (.txSend 0) s = endCommand 0x40 s
      (if s.txOpen = false then .error .notOpen
        else if s.txBitMode = true then .error .mode
        else if sendTooLong s = true then .error .len
        else if s.txq.length + 1 + (framingBytes s.txMode s.txBytePos.toNat).length + s.txBytePos.toNat
            > s.cfg.txfBytes then .error .txFull
        else .ok (sentState ks s, BitVec.ofNat 32 (outboundMessage s (ksNext ks.enc).2).length)) :=
  endCommand_reserved_zero.trans (by rw [h]; rfl)

/-- In byte mode it comes to the length checks. -/
theorem exec_txSend_of_byteMode (h : s.session = some ks) (hopen : s.txOpen = true) (hbytes : s.txBitMode = false) :
    exec (.txSend 0) s = endCommand 0x40 s
      (if sendTooLong s = true then .error .len
        else if s.txq.length + 1 + (framingBytes s.txMode s.txBytePos.toNat).length + s.txBytePos.toNat
            > s.cfg.txfBytes then .error .txFull
        else .ok (sentState ks s, BitVec.ofNat 32 (outboundMessage s (ksNext ks.enc).2).length)) :=
  (exec_txSend_of_session h).trans (endCommand_mode_passed hopen hbytes)

/-- With lengths that fit it comes to the check of the room in TXQ. -/
theorem exec_txSend_of_fits (h : s.session = some ks) (hopen : s.txOpen = true) (hbytes : s.txBitMode = false)
    (hmode : ¬(s.txMode = .varByte ∧ 255 < s.txBytePos.toNat))
    (hph : ∀ p ∈ s.ph, s.txBytePos.toNat - p.toNat - 1 ≤ 255) :
    exec (.txSend 0) s = endCommand 0x40 s
      (if s.cfg.txfBytes < s.txq.length + 1 + s.txMode.prefixBytes + s.txBytePos.toNat then .error .txFull
        else .ok (sentState ks s, BitVec.ofNat 32 (1 + s.txMode.prefixBytes + s.txBytePos.toNat))) := by
  have hfits : ¬sendTooLong s = true := by
    rw [sendTooLong_iff, not_or]
    exact ⟨hmode, fun ⟨p, hp, hcount⟩ => (hph p hp).not_gt hcount⟩
  rw [← length_framingBytes s.txMode s.txBytePos.toNat, ← length_outboundMessage s (ksNext ks.enc).2]
  exact (exec_txSend_of_byteMode h hopen hbytes).trans (endCommand_check_passed hfits)

/-- A TX_SEND that succeeds has passed every check and made `sentState`. -/
theorem exec_txSend_success {t : State} (h : exec (.txSend 0) s = .next t) (hcode : t.code = 0) :
    ∃ ks, s.session = some ks ∧ s.txOpen = true ∧ s.txBitMode = false ∧ sendTooLong s = false ∧
      s.txq.length + 1 + s.txMode.prefixBytes + s.txBytePos.toNat ≤ s.cfg.txfBytes ∧
      t = succeed 0x40 (BitVec.ofNat 32 (1 + s.txMode.prefixBytes + s.txBytePos.toNat)) (sentState ks s) := by
  cases hks : s.session with
  | none =>
    have hraise : endCommand 0x40 s (.error .noSession) = .next t := (exec_txSend_of_no_session hks).symm.trans h
    obtain ⟨u, v, ⟨⟩, -⟩ := endCommand_ok_of_code hraise hcode
  | some ks =>
    rw [exec_txSend_of_session hks, length_outboundMessage, length_framingBytes] at h
    obtain ⟨u, v, hok, rfl⟩ := endCommand_ok_of_code h hcode
    split_ifs at hok with hclosed hbits hlong hfull
    cases hok
    exact ⟨ks, rfl, Bool.eq_true_of_not_eq_false hclosed, Bool.eq_false_iff.mpr hbits, Bool.eq_false_iff.mpr hlong,
      not_lt.mp hfull, rfl⟩

end TxSend

/-- Settles O42, check by check in the order of R300; the message queued is read part by part. -/
theorem txSendRule : Obligations.TxSendRule := by
  refine ⟨fun _ => rfl, fun r s hr => ?badArg, fun s hnone => exec_txSend_of_no_session hnone,
    fun s hsession hclosed => ?notOpen, fun s hsession hopen hbits => ?mode,
    fun s hsession hopen hbytes hlong => ?len, fun s hsession hopen hbytes hmode hph hfull => ?txFull,
    fun s ks hks hopen hbytes hmode hph hroom => ?queued⟩
  case badArg => exact badArgumentFails (.txSend r) s (beq_eq_false_iff_ne.mpr hr)
  case notOpen =>
    obtain ⟨ks, hks⟩ := Option.ne_none_iff_exists'.mp hsession
    exact (exec_txSend_of_session hks).trans (endCommand_builder_closed hclosed)
  case mode =>
    obtain ⟨ks, hks⟩ := Option.ne_none_iff_exists'.mp hsession
    exact (exec_txSend_of_session hks).trans (endCommand_mode_failed hopen hbits)
  case len =>
    obtain ⟨ks, hks⟩ := Option.ne_none_iff_exists'.mp hsession
    exact (exec_txSend_of_byteMode hks hopen hbytes).trans (endCommand_check_failed (sendTooLong_iff.mpr hlong))
  case txFull =>
    obtain ⟨ks, hks⟩ := Option.ne_none_iff_exists'.mp hsession
    exact (exec_txSend_of_fits hks hopen hbytes hmode hph).trans (endCommand_check_failed hfull)
  case queued =>
    refine ⟨framingBytes s.txMode s.txBytePos.toNat, finalPayload s, sentEntries ks s,
      fun hfixed => ?fixed, fun hbyte => ?varByte, fun hshort => ?varShort, length_finalPayload s,
      fun j => getElem_finalPayload s, sentEntries_bytes ks s, fun k => sentEntries_marks ks s, ?ended⟩
    case fixed => rw [hfixed]; rfl
    case varByte => rw [hbyte]; rfl
    case varShort => rw [hshort]; exact framingBytes_varShort s.txBytePos
    case ended =>
      exact (exec_txSend_of_fits hks hopen hbytes hmode hph).trans (endCommand_check_passed (not_lt.mpr hroom))

/-! ## The payload length read back (44_transmit.md R306) -/

/-- The two bytes of a 16-bit value, as a number. -/
theorem bytesShortBe_value (v : Half) : 256 * (v.extractLsb' 8 8).toNat + (v.extractLsb' 0 8).toNat = v.toNat := by
  simp only [BitVec.extractLsb'_toNat]
  omega

/-- Settles O44: the framing bytes stand behind the opcode byte, and a VariableByte length that was sent fits one. -/
theorem framingPrefixRoundTrip : Obligations.FramingPrefixRoundTrip := by
  intro s t h hcode
  obtain ⟨ks, -, -, -, hfits, -, rfl⟩ := exec_txSend_success h hcode
  have hbyte := sentState_txq_byte ks s
  refine ⟨fun hmode => ?varByte, fun hmode => ?varShort⟩
  case varByte =>
    have hlen : s.txBytePos.toNat ≤ 255 :=
      not_lt.mp fun hlong => absurd (sendTooLong_iff.mpr (.inl ⟨hmode, hlong⟩)) (by simp [hfits])
    have hprefix : (outboundMessage s (ksNext ks.enc).2)[1]? = some (BitVec.ofNat 8 s.txBytePos.toNat) := by
      rw [outboundMessage, hmode]; rfl
    obtain ⟨e, he, hval⟩ := Option.map_eq_some_iff.mp ((hbyte 1).trans hprefix)
    exact ⟨e, he, by rw [hval, BitVec.toNat_ofNat, Nat.mod_eq_of_lt (by omega)]⟩
  case varShort =>
    have hmsg : outboundMessage s (ksNext ks.enc).2 =
        maskOpcode s.txOpcode (ksNext ks.enc).2 :: (bytesShortBe s.txBytePos ++ finalPayload s) := by
      rw [outboundMessage, hmode, framingBytes_varShort]
    rw [hmsg] at hbyte
    obtain ⟨hi, hhi, hhival⟩ := Option.map_eq_some_iff.mp (hbyte 1)
    obtain ⟨lo, hlo, hloval⟩ := Option.map_eq_some_iff.mp (hbyte 2)
    exact ⟨hi, lo, hhi, hlo, by rw [hhival, hloval, bytesShortBe_value]⟩

/-! ## TX_POP (44_transmit.md R310) -/

section TxPop
variable {s : State}

theorem exec_txPop_of_empty (h : s.txq = []) : exec (.txPop 0) s = failsWith 0x41 0x0B s :=
  endCommand_reserved_zero.trans (by rw [h]; rfl)

theorem exec_txPop_of_cons {e : TxEntry} {rest : List TxEntry} (h : s.txq = e :: rest) :
    exec (.txPop 0) s = endsOk 0x41 (rvalTxEntry e) { s with txq := rest } :=
  endCommand_reserved_zero.trans (by rw [h, endCommand_ok_eq_endsOk])

end TxPop

/-- Settles O45, check by check in the order of R310. -/
theorem txPopRule : Obligations.TxPopRule :=
  ⟨fun _ => rfl, fun r s hr => badArgumentFails (.txPop r) s (beq_eq_false_iff_ne.mpr hr),
    fun _ => exec_txPop_of_empty, fun _ _ _ => exec_txPop_of_cons⟩

end Sys2Proof.Machine
end

section
/-! SUPPORT. The control commands NOP and RESET (45_control.md). -/
namespace Sys2Proof.Machine

/-! ## NOP (45_control.md R330) -/

/-- NOP with its reserved field zero ends with OK in every state, and its pseudocode writes nothing. -/
theorem execNop_zero (s : State) : execNop 0 s = endsOk 0x00 0 s :=
  endCommand_reserved_zero.trans endCommand_ok_eq_endsOk

/-- Settles O19: the reserved field is NOP's one check. -/
theorem nopRule : Obligations.NopRule := by
  refine fun r s => ⟨fun hr => ?badArg, ?unchanged, rfl⟩
  case badArg => exact badArgumentFails (.nop r) s (beq_eq_false_iff_ne.mpr hr)
  case unchanged =>
    rintro rfl
    exact execNop_zero s

/-! ## RESET (45_control.md R332) -/

/-- RESET with its reserved field zero ends with OK in every state, RESULT and RVAL written after the reset. -/
theorem execReset_zero (s : State) : execReset 0 s = .next (succeed 0x03 0 (hardReset s)) :=
  endCommand_reserved_zero.trans (endCommand_ok 0x03 s (hardReset s) 0)

/-- RESULT is not among the elements `HasResetValues` speaks of, so an `ok` with RVAL 0 keeps it. -/
theorem State.HasResetValues.succeed_zero {t : State} (h : t.HasResetValues) (op : Byte) :
    (succeed op 0 t).HasResetValues :=
  { h with rval := succeed_rval op 0 t }

/-- Settles O20: the command's own writes keep the reset values, and STATUS and the IRQ line follow from those. -/
theorem resetRule : Obligations.ResetRule := by
  refine ⟨fun _ => rfl, fun r s hr => ?badArg, fun s => ?reset⟩
  case badArg => exact badArgumentFails (.reset r) s (beq_eq_false_iff_ne.mpr hr)
  case reset =>
    have hreset : (succeed 0x03 0 (hardReset s)).HasResetValues := (hardReset_hasResetValues s).succeed_zero 0x03
    have hresult : resultWord 0x03 0x00 = 0x00000300 := by decide
    exact ⟨_, execReset_zero s, hreset, hresult, hreset.irqLine_eq_false,
      hreset.readOffset_eq_zero (List.mem_cons_self ..), rfl, rfl, rfl, rfl⟩

end Sys2Proof.Machine
end

section
/-! SUPPORT. The precedence of failures (60_exceptions.md R343), command by command: the pseudocode checks its causes in
ascending order of their codes. -/
namespace Sys2Proof.Machine

/-! ## The first cause that holds -/

/-- `o` is how a command of OP `op` ends in `s` that goes through the failures `es` in this order: with the first one
whose cause `C` holds, with OK where none does. -/
def ReportsFirst (C : ErrorCode → Prop) (op : Byte) (s : State) (es : List ErrorCode)
    (o : Host.Outcome State Fault Refusal) : Prop :=
  match es with
  | [] => ∃ v u, o = endsOk op v u
  | e :: es => (C e → o = failsWith op e.code s) ∧ (¬C e → ReportsFirst C op s es o)

namespace ReportsFirst
variable {C : ErrorCode → Prop} {op : Byte} {s : State} {e : ErrorCode} {es : List ErrorCode}
  {o : Host.Outcome State Fault Refusal} {c : Prop} [Decidable c] {r : CmdEnd}

theorem ok {u : State} {v : Word} : ReportsFirst C op s [] (endCommand op s (.ok (u, v))) :=
  ⟨v, u, rfl⟩

theorem failed (he : C e) (ho : o = failsWith op e.code s) : ReportsFirst C op s (e :: es) o :=
  ⟨fun _ => ho, fun hno => absurd he hno⟩

theorem skip (he : ¬C e) (h : ReportsFirst C op s es o) : ReportsFirst C op s (e :: es) o :=
  ⟨fun hyes => absurd hyes he, fun _ => h⟩

theorem of_eq {o' : Host.Outcome State Fault Refusal} (ho : o = o') (h : ReportsFirst C op s es o') :
    ReportsFirst C op s es o :=
  ho ▸ h

/-- A check of the pseudocode, for exactly the cause of its failure. -/
theorem check (hc : C e ↔ c) (h : ReportsFirst C op s es (endCommand op s r)) :
    ReportsFirst C op s (e :: es) (endCommand op s (if c then .error e else r)) := by
  by_cases hfails : c
  · exact failed (hc.mpr hfails) (endCommand_check_failed hfails)
  · rw [endCommand_check_passed hfails]
    exact skip (mt hc.mp hfails) h

/-- In ascending order of codes the first cause that holds is the one with the lowest code. -/
theorem lowest (h : ReportsFirst C op s es o) (hsorted : es.Pairwise (·.code ≤ ·.code)) (hall : ∀ f, C f → f ∈ es) :
    (∃ e, o = failsWith op e.code s ∧ C e ∧ ∀ f, C f → e.code ≤ f.code) ∨
      (∃ v u, o = endsOk op v u) ∧ ∀ f, ¬C f := by
  induction es with
  | nil => exact .inr ⟨h, fun f hf => List.not_mem_nil (hall f hf)⟩
  | cons e es ih =>
    obtain ⟨hfailed, hpassed⟩ := h
    obtain ⟨hhead, htail⟩ := List.pairwise_cons.mp hsorted
    by_cases he : C e
    · refine .inl ⟨e, hfailed he, he, fun f hf => ?_⟩
      rcases List.mem_cons.mp (hall f hf) with rfl | hmem
      · exact BitVec.le_refl _
      · exact hhead f hmem
    · refine ih (hpassed he) htail fun f hf => (List.mem_cons.mp (hall f hf)).resolve_left ?_
      rintro rfl
      exact he hf

end ReportsFirst

/-! ## The failures of a command (60_exceptions.md R340) -/

/-- The column `commands` of 60_exceptions.md R340 for the failures that depend on the state, as OPs. -/
def ErrorCode.ops : ErrorCode → List Byte
  | .illegal | .badArg => []
  | .noSession => [0x20, 0x40]
  | .sessionExists => [0x01]
  | .tableLocked => [0x10, 0x11]
  | .tableUnlocked => [0x01]
  | .tableIncomplete => [0x12]
  | .notOpen => [0x31, 0x32, 0x33, 0x34, 0x35, 0x36, 0x37, 0x38, 0x39, 0x3A, 0x40]
  | .alreadyOpen => [0x30]
  | .mode => [0x32, 0x33, 0x34, 0x35, 0x36, 0x37, 0x38, 0x39, 0x3A, 0x40]
  | .empty => [0x21, 0x22, 0x41]
  | .range => [0x21]
  | .overflow => [0x34, 0x35, 0x36, 0x37, 0x38, 0x39, 0x3A]
  | .phLimit => [0x3A]
  | .len => [0x40]
  | .txFull => [0x40]
  | .rxFull => [0x20]

/-- Every failure of a command, in ascending order of codes. -/
def ErrorCode.ascending : List ErrorCode :=
  [.illegal, .badArg, .noSession, .sessionExists, .tableLocked, .tableUnlocked, .tableIncomplete, .notOpen,
    .alreadyOpen, .mode, .empty, .range, .overflow, .phLimit, .len, .txFull, .rxFull]

/-- The failures of a well-formed command of OP `op`, in ascending order of codes. -/
def stateFailures (op : Byte) : List ErrorCode := ErrorCode.ascending.filter fun e => decide (op ∈ e.ops)

theorem ErrorCode.mem_ascending (e : ErrorCode) : e ∈ ErrorCode.ascending := by
  cases e <;> decide

theorem ErrorCode.ascending_sorted : ErrorCode.ascending.Pairwise (·.code ≤ ·.code) := by
  decide

theorem mem_stateFailures {op : Byte} {e : ErrorCode} : e ∈ stateFailures op ↔ op ∈ e.ops := by
  simp [stateFailures, e.mem_ascending]

/-- BADARG is below every failure that depends on the state. -/
theorem failures_sorted (op : Byte) : (ErrorCode.badArg :: stateFailures op).Pairwise (·.code ≤ ·.code) := by
  refine List.pairwise_cons.mpr ⟨fun e he => ?_, ErrorCode.ascending_sorted.filter _⟩
  have hop : op ∈ e.ops := mem_stateFailures.mp he
  cases e
  case illegal => exact absurd hop List.not_mem_nil
  all_goals decide

/-- Only a byte write or a placeholder appends bytes. -/
theorem opCode_of_appendedBytes {i : Instr} {n : Nat} (h : appendedBytes i = some n) :
    i.opCode ∈ [0x35#8, 0x36#8, 0x37#8, 0x38#8, 0x39#8, 0x3A#8] := by
  cases i
  case wrByte | wrShortBe | wrShortLe | wrIntBe | wrLongBe | wrPlaceholder =>
    cases h
    simp [Instr.opCode]
  all_goals cases h

/-- A cause holds only of a command that the table lists for its failure. -/
theorem mem_failures_of_causeHolds {i : Instr} {s : State} {e : ErrorCode} (h : causeHolds i s e) :
    e ∈ ErrorCode.badArg :: stateFailures i.opCode := by
  by_cases hbad : e = .badArg
  · exact hbad ▸ List.mem_cons_self ..
  refine List.mem_cons_of_mem _ (mem_stateFailures.mpr ?_)
  cases e
  case illegal => exact h.elim
  case badArg => exact absurd rfl hbad
  case mode | empty =>
    rcases h with ⟨hop, -⟩ | ⟨hop, -⟩
    all_goals
      simp only [ErrorCode.ops, List.mem_cons] at hop ⊢
      tauto
  case range =>
    obtain ⟨r, x, f, rest, rfl, -⟩ := h
    exact List.mem_singleton_self _
  case overflow =>
    rcases h with ⟨n, r, rfl, -⟩ | ⟨n, hn, -⟩
    · exact List.mem_cons_self ..
    · exact List.mem_cons_of_mem _ (opCode_of_appendedBytes hn)
  case rxFull =>
    obtain ⟨ra, rb, b, ks, rfl, -⟩ := h
    exact List.mem_singleton_self _
  case noSession | tableLocked | notOpen => exact h.1
  all_goals exact List.mem_singleton.mpr h.1

/-! ## The checks of each command -/

section Checks
variable {C : ErrorCode → Prop} {op : Byte} {s : State} {es : List ErrorCode} {r : CmdEnd}

/-- The two checks a command on an open builder begins with; it does not work in the mode `b` (43_framer.md R254). -/
theorem reportsFirst_builder {b : Bool} (hopen : C .notOpen ↔ s.txOpen = false) (hmode : C .mode ↔ s.txBitMode = b)
    (h : ReportsFirst C op s es (endCommand op s r)) :
    ReportsFirst C op s (.notOpen :: .mode :: es)
      (endCommand op s
        (if s.txOpen = false then .error .notOpen else if s.txBitMode = b then .error .mode else r)) :=
  .check hopen (.check hmode h)

/-- `PutBytes` (43_framer.md R268). -/
theorem reportsFirst_putBytes {bs : List Byte} (hopen : C .notOpen ↔ s.txOpen = false)
    (hmode : C .mode ↔ s.txBitMode = true) (hroom : C .overflow ↔ s.cfg.txCap < s.txBytePos.toNat + bs.length) :
    ReportsFirst C op s [.notOpen, .mode, .overflow] (endCommand op s (putBytes bs s)) :=
  reportsFirst_builder hopen hmode (.check hroom .ok)

/-- A byte that completes a frame when `c` holds, `r` being what it does otherwise. -/
theorem reportsFirst_emitFrame {ks : Session} {b : Byte} {c : Prop} [Decidable c] {t : State} {f : Frame} {v : Word}
    (hfull : C .rxFull ↔ s.frq.length = s.cfg.frDepth ∧ completesFrame ks b s) (hc : completesFrame ks b s ↔ c)
    (hr : ∃ u w, r = .ok (u, w)) :
    ReportsFirst C op s [.rxFull] (endCommand op s (if c then emitFrame s t f v else r)) := by
  by_cases hcomplete : c
  · rw [if_pos hcomplete]
    exact .check (hfull.trans (and_iff_left (hc.mpr hcomplete))) .ok
  · obtain ⟨u, w, rfl⟩ := hr
    rw [if_neg hcomplete]
    exact .skip (fun h => hcomplete (hc.mp (hfull.mp h).2)) .ok

end Checks


section Commands
variable {s : State}

theorem seed_reportsFirst :
    ReportsFirst (causeHolds (.seed 0) s) 0x01 s [.sessionExists, .tableUnlocked] (exec (.seed 0) s) :=
  .of_eq endCommand_reserved_zero
    (.check ((and_iff_right rfl).trans Option.isSome_iff_ne_none.symm) (.check (and_iff_right rfl) .ok))

theorem tblWrite_reportsFirst {k : Byte} {rb : BitVec 7} {v : BitVec 1} {l : Byte}
    (h : (Instr.tblWrite k rb v l).wellFormed = true) :
    ReportsFirst (causeHolds (.tblWrite k rb v l) s) 0x10 s [.tableLocked] (exec (.tblWrite k rb v l) s) :=
  .of_eq (exec_tblWrite_of_wellFormed h) (.check (and_iff_right (.head _)) .ok)

theorem tblFill_reportsFirst {ra : Byte} {rb : BitVec 7} {v : BitVec 1} {l : Byte}
    (h : (Instr.tblFill ra rb v l).wellFormed = true) :
    ReportsFirst (causeHolds (.tblFill ra rb v l) s) 0x11 s [.tableLocked] (exec (.tblFill ra rb v l) s) :=
  .of_eq (exec_tblFill_of_wellFormed h) (.check (and_iff_right (.tail _ (.head _))) .ok)

theorem tblLock_reportsFirst :
    ReportsFirst (causeHolds (.tblLock 0) s) 0x12 s [.tableIncomplete] (exec (.tblLock 0) s) :=
  .of_eq (execTblLock_zero s)
    (.check ((and_iff_right rfl).trans (and_congr_right fun _ => table_all_valid_eq_false.symm)) .ok)

/-- A byte ends with RX_FULL in each phase exactly when it would complete a frame that FRQ has no room for. -/
theorem deframeByte_reportsFirst {C : ErrorCode → Prop} {ks : Session} {b : Byte}
    (hfull : C .rxFull ↔ s.frq.length = s.cfg.frDepth ∧ completesFrame ks b s) :
    ReportsFirst C 0x20 s [.rxFull] (endCommand 0x20 s (deframeByte ks b s)) := by
  cases hphase : s.dfPhase
  all_goals rw [deframeByte, hphase]
  case opc =>
    refine reportsFirst_emitFrame hfull (by simp only [completesFrame, hphase, unmaskOpcode]) ?_
    split_ifs
    · exact ⟨_, _, rfl⟩
    · exact ⟨_, _, rfl⟩
  case len | pay => exact reportsFirst_emitFrame hfull (by simp only [completesFrame, hphase]) ⟨_, _, rfl⟩

theorem rxPush_reportsFirst {b : Byte} :
    ReportsFirst (causeHolds (.rxPush 0 0 b) s) 0x20 s [.noSession, .rxFull] (exec (.rxPush 0 0 b) s) := by
  cases hks : s.session with
  | none => exact .failed ⟨.head _, hks⟩ (exec_rxPush_of_no_session hks)
  | some ks =>
    refine .skip (by simp [causeHolds, hks])
      (.of_eq (exec_rxPush_of_session hks) (deframeByte_reportsFirst ?_))
    simp [causeHolds, hks]

theorem frRead_reportsFirst {x : Half} :
    ReportsFirst (causeHolds (.frRead 0 x) s) 0x21 s [.empty, .range] (exec (.frRead 0 x) s) := by
  cases hfrq : s.frq with
  | nil => exact .failed (.inl ⟨.head _, hfrq⟩) (exec_frRead_of_empty hfrq)
  | cons f rest =>
    refine .skip ?_ (.of_eq (exec_frRead_of_cons hfrq) (.check ?_ .ok))
    · simp [causeHolds, Instr.opCode, hfrq]
    · simp [causeHolds, hfrq]

theorem frPop_reportsFirst :
    ReportsFirst (causeHolds (.frPop 0) s) 0x22 s [.empty] (exec (.frPop 0) s) := by
  cases hfrq : s.frq with
  | nil => exact .failed (.inl ⟨.tail _ (.head _), hfrq⟩) (exec_frPop_of_empty hfrq)
  | cons f rest => exact .skip (by simp [causeHolds, Instr.opCode, hfrq]) (.of_eq (exec_frPop_of_cons hfrq) .ok)

theorem txPop_reportsFirst :
    ReportsFirst (causeHolds (.txPop 0) s) 0x41 s [.empty] (exec (.txPop 0) s) := by
  cases htxq : s.txq with
  | nil => exact .failed (.inr ⟨rfl, htxq⟩) (exec_txPop_of_empty htxq)
  | cons e rest => exact .skip (by simp [causeHolds, Instr.opCode, htxq]) (.of_eq (exec_txPop_of_cons htxq) .ok)

theorem txBegin_reportsFirst {o : Byte} {m : BitVec 2} (hm : m ≠ 3) :
    ReportsFirst (causeHolds (.txBegin o 0 m) s) 0x30 s [.alreadyOpen] (exec (.txBegin o 0 m) s) := by
  obtain ⟨x, hx, -⟩ := modeOperand_eq_some hm
  exact .of_eq (exec_txBegin_of_mode hx) (.check (and_iff_right rfl) .ok)

theorem txAbort_reportsFirst :
    ReportsFirst (causeHolds (.txAbort 0) s) 0x31 s [.notOpen] (exec (.txAbort 0) s) :=
  .of_eq endCommand_reserved_zero (.check (and_iff_right (.head _)) .ok)

theorem bitMode_reportsFirst :
    ReportsFirst (causeHolds (.bitMode 0) s) 0x32 s [.notOpen, .mode] (exec (.bitMode 0) s) :=
  .of_eq endCommand_reserved_zero
    (reportsFirst_builder (by simp [causeHolds, Instr.opCode]) (by simp [causeHolds, Instr.opCode]) .ok)

theorem byteMode_reportsFirst :
    ReportsFirst (causeHolds (.byteMode 0) s) 0x33 s [.notOpen, .mode] (exec (.byteMode 0) s) :=
  .of_eq endCommand_reserved_zero
    (reportsFirst_builder (by simp [causeHolds, Instr.opCode]) (by simp [causeHolds, Instr.opCode]) .ok)

theorem wrBits_reportsFirst {n : Byte} (hpos : 1 ≤ n.toNat) (hle : n.toNat ≤ 32) :
    ReportsFirst (causeHolds (.wrBits n 0) s) 0x34 s [.notOpen, .mode, .overflow] (exec (.wrBits n 0) s) :=
  .of_eq (exec_wrBits_of_wellFormed hpos hle)
    (reportsFirst_builder (by simp [causeHolds, Instr.opCode]) (by simp [causeHolds, Instr.opCode])
      (.check (by simp [causeHolds, appendedBytes]) .ok))

/-- The causes of the builder's checks for a command that appends `n` bytes. -/
theorem causes_of_appendedBytes {i : Instr} {n : Nat} (h : appendedBytes i = some n) :
    (causeHolds i s .notOpen ↔ s.txOpen = false) ∧ (causeHolds i s .mode ↔ s.txBitMode = true) ∧
      (causeHolds i s .overflow ↔ s.cfg.txCap < s.txBytePos.toNat + n) := by
  cases i
  case wrByte | wrShortBe | wrShortLe | wrIntBe | wrLongBe | wrPlaceholder =>
    cases h
    simp [causeHolds, Instr.opCode, appendedBytes]
  all_goals cases h

/-- A command that comes to `PutBytes`. -/
theorem byteWrite_reportsFirst {i : Instr} {bs : List Byte} (hbytes : appendedBytes i = some bs.length)
    (hexec : exec i s = endCommand i.opCode s (putBytes bs s)) :
    ReportsFirst (causeHolds i s) i.opCode s [.notOpen, .mode, .overflow] (exec i s) :=
  have ⟨hopen, hmode, hroom⟩ := causes_of_appendedBytes hbytes
  .of_eq hexec (reportsFirst_putBytes hopen hmode hroom)

theorem wrPlaceholder_reportsFirst :
    ReportsFirst (causeHolds (.wrPlaceholder 0) s) 0x3A s [.notOpen, .mode, .overflow, .phLimit]
      (exec (.wrPlaceholder 0) s) :=
  have ⟨hopen, hmode, hroom⟩ := causes_of_appendedBytes (s := s) (i := .wrPlaceholder 0) rfl
  .of_eq endCommand_reserved_zero
    (reportsFirst_builder hopen hmode (.check hroom (.check (and_iff_right rfl) .ok)))

theorem txSend_reportsFirst :
    ReportsFirst (causeHolds (.txSend 0) s) 0x40 s [.noSession, .notOpen, .mode, .len, .txFull]
      (exec (.txSend 0) s) := by
  cases hks : s.session with
  | none => exact .failed ⟨.tail _ (.head _), hks⟩ (exec_txSend_of_no_session hks)
  | some ks =>
    refine .skip (by simp [causeHolds, hks])
      (.of_eq (exec_txSend_of_session hks) ?_)
    refine reportsFirst_builder (by simp [causeHolds, Instr.opCode]) (by simp [causeHolds, Instr.opCode])
      (.check ((and_iff_right rfl).trans sendTooLong_iff.symm) (.check ?_ .ok))
    rw [length_framingBytes]
    exact and_iff_right rfl

end Commands

/-! ## Every command -/

/-- A well-formed command checks the causes that depend on the state in ascending order of their codes
(60_exceptions.md R343). -/
theorem exec_reportsFirst_of_wellFormed {i : Instr} (h : i.wellFormed = true) (s : State) :
    ReportsFirst (causeHolds i s) i.opCode s (stateFailures i.opCode) (exec i s) := by
  cases i
  case tblWrite => exact tblWrite_reportsFirst h
  case tblFill => exact tblFill_reportsFirst h
  case txBegin o rb m =>
    obtain ⟨rfl, hm⟩ : rb = 0 ∧ m ≠ 3 := by simpa [Instr.wellFormed] using h
    exact txBegin_reportsFirst hm
  case wrBits n rb =>
    obtain ⟨⟨rfl, hpos⟩, hle⟩ : (rb = 0 ∧ 1 ≤ n.toNat) ∧ n.toNat ≤ 32 := by
      simpa only [Instr.wellFormed, Bool.and_eq_true, beq_iff_eq, decide_eq_true_eq] using h
    exact wrBits_reportsFirst hpos hle
  case rxPush ra rb b =>
    obtain ⟨rfl, rfl⟩ : ra = 0 ∧ rb = 0 := by simpa [Instr.wellFormed] using h
    exact rxPush_reportsFirst
  case wrByte ra rb v =>
    obtain ⟨rfl, rfl⟩ : ra = 0 ∧ rb = 0 := by simpa [Instr.wellFormed] using h
    exact byteWrite_reportsFirst (bs := [v]) rfl (endCommand_check_passed (by simp))
  all_goals obtain rfl := beq_iff_eq.mp h
  case nop => exact ⟨_, _, execNop_zero s⟩
  case close => exact ⟨_, _, execClose_zero s⟩
  case reset => exact ⟨_, _, execReset_zero s⟩
  case tblRead => exact ⟨_, _, execTblRead_zero _ s⟩
  case seed => exact seed_reportsFirst
  case tblLock => exact tblLock_reportsFirst
  case frRead => exact frRead_reportsFirst
  case frPop => exact frPop_reportsFirst
  case txAbort => exact txAbort_reportsFirst
  case bitMode => exact bitMode_reportsFirst
  case byteMode => exact byteMode_reportsFirst
  case wrShortBe v => exact byteWrite_reportsFirst (bs := bytesShortBe v) rfl endCommand_reserved_zero
  case wrShortLe v => exact byteWrite_reportsFirst (bs := bytesShortLe v) rfl endCommand_reserved_zero
  case wrIntBe => exact byteWrite_reportsFirst (bs := bytesIntBe s.data0) rfl endCommand_reserved_zero
  case wrLongBe => exact byteWrite_reportsFirst (bs := bytesLongBe s.data1 s.data0) rfl endCommand_reserved_zero
  case wrPlaceholder => exact wrPlaceholder_reportsFirst
  case txSend => exact txSend_reportsFirst
  case txPop => exact txPop_reportsFirst

/-- The argument check comes before any other (30_encoding.md R112). -/
theorem exec_reportsFirst (i : Instr) (s : State) :
    ReportsFirst (causeHolds i s) i.opCode s (.badArg :: stateFailures i.opCode) (exec i s) :=
  ⟨badArgumentFails i s, fun hgood => exec_reportsFirst_of_wellFormed (Bool.eq_true_of_not_eq_false hgood) s⟩

/-- Settles O12: a command goes through its failures in ascending order of codes, so the first whose cause holds has the
lowest code; the codes tell the failures apart. -/
theorem lowestCodeIsReported : Obligations.LowestCodeIsReported := by
  intro i s t hexec
  obtain ⟨e, ho, he, hlowest⟩ | ⟨⟨v, u, ho⟩, hnone⟩ :=
    (exec_reportsFirst i s).lowest (failures_sorted i.opCode) (fun _ => mem_failures_of_causeHolds)
  · obtain rfl : raise i.opCode e s = t := Host.Outcome.next.inj (ho.symm.trans hexec)
    rw [raise_code]
    refine ⟨fun f => ⟨fun hcode => ?_, fun ⟨hf, hleast⟩ => ?_⟩, fun hzero => absurd hzero e.code_ne_zero,
      fun hno => absurd he (hno e)⟩
    · exact ErrorCode.code_injective hcode ▸ ⟨he, hlowest⟩
    · exact BitVec.le_antisymm (hlowest f hf) (hleast e he)
  · obtain rfl : succeed i.opCode v u = t := Host.Outcome.next.inj (ho.symm.trans hexec)
    rw [succeed_code]
    exact ⟨fun f => ⟨fun hzero => absurd hzero.symm f.code_ne_zero, fun ⟨hf, _⟩ => absurd hf (hnone f)⟩,
      fun _ => hnone, fun _ => rfl⟩

end Sys2Proof.Machine
end

section
/-! SUPPORT. IRQ_PEND bit by bit and the IRQ line (10_state.md R49, 60_exceptions.md R350, R351). -/
namespace Sys2Proof.Machine

/-! ## IRQ_PEND (10_state.md R49) -/

section IrqPendWord
open BitVec

theorem irqPendWord_frame (s : State) : (irqPendWord s).getLsbD 0 = !s.frq.isEmpty := by
  simp only [irqPendWord, getLsbD_append]
  simp

theorem irqPendWord_tx (s : State) : (irqPendWord s).getLsbD 1 = !s.txq.isEmpty := by
  simp only [irqPendWord, getLsbD_append]
  simp

theorem irqPendWord_err (s : State) : (irqPendWord s).getLsbD 2 = (s.errLog != 0) := by
  simp only [irqPendWord, getLsbD_append]
  simp

theorem irqPendWord_reserved (s : State) : (irqPendWord s).extractLsb' 3 29 = 0 := by
  simp (disch := decide) only [irqPendWord, extractLsb'_append_eq_of_le]
  exact extractLsb'_eq_self

end IrqPendWord

/-! ## The IRQ line (60_exceptions.md R351) -/

/-- The three terms of the line as one cause among the three. -/
theorem irqLine_eq_true_iff (s : State) :
    irqLine s = true ↔ ∃ k, k < 3 ∧ s.irqEn.getLsbD k = true ∧ (irqPendWord s).getLsbD k = true := by
  simp only [irqLine, Bool.or_eq_true, Bool.and_eq_true]
  constructor
  · rintro ((hframe | htx) | herr)
    · exact ⟨0, by decide, hframe⟩
    · exact ⟨1, by decide, htx⟩
    · exact ⟨2, by decide, herr⟩
  · rintro ⟨k, hk, hcause⟩
    interval_cases k
    · exact .inl (.inl hcause)
    · exact .inl (.inr hcause)
    · exact .inr hcause

/-- Settles O52: each bit of IRQ_PEND is the part of its concatenation that stands there; the reset values are those of
any state just reset. -/
theorem irqLineRule : Obligations.IrqLineRule := by
  refine ⟨fun s => ?_, reset_hasResetValues.readOffset_eq_zero (by decide), reset_hasResetValues.irqLine_eq_false⟩
  simp only [readOffset_irqPend]
  refine ⟨?frame, ?tx, ?err, irqPendWord_reserved s, irqLine_eq_true_iff s⟩
  case frame =>
    rw [irqPendWord_frame]
    simp
  case tx =>
    rw [irqPendWord_tx]
    simp
  case err =>
    rw [irqPendWord_err]
    simp

end Sys2Proof.Machine
end

section
/-! SUPPORT. Decode and encode undo each other, and the argument check is the table row of a command
(30_encoding.md sections 1 and 2). -/
namespace Sys2Proof.Machine

/-! ## The word of a command (30_encoding.md R110) -/

/-- Equal fields side by side are equal one by one. -/
theorem append_eq_append_iff {m n : Nat} {a b : BitVec m} {x y : BitVec n} : a ++ x = b ++ y ↔ a = b ∧ x = y := by
  refine ⟨fun h => ⟨?high, ?low⟩, fun ⟨hhigh, hlow⟩ => hhigh ▸ hlow ▸ rfl⟩
  case high => simpa only [BitVec.extractLsb'_append_eq_left] using congrArg (BitVec.extractLsb' n m) h
  case low => simpa only [BitVec.extractLsb'_append_eq_right] using congrArg (BitVec.extractLsb' 0 n) h

theorem fieldOP_encode (i : Instr) : fieldOP (encode i) = i.opCode :=
  Laws.fieldOP_append i.opCode i.operands

theorem fieldAB_encode (i : Instr) : fieldAB (encode i) = i.operands :=
  BitVec.extractLsb'_append_eq_right

/-- A word is its OP above its operand bits. -/
theorem fieldOP_append_fieldAB (w : Word) : fieldOP w ++ fieldAB w = w :=
  (BitVec.extractLsb'_append_extractLsb'_eq_extractLsb' rfl).trans BitVec.extractLsb'_eq_self

/-- Settles O1: the OP of the word picks the command's own row, whose layout cuts the operands into the same fields. -/
theorem decodeOfEncode : Obligations.DecodeOfEncode := by
  intro i
  have hoperands := fieldAB_encode i
  rw [decode, fieldOP_encode]
  cases i
  case tblWrite | tblFill =>
    rw [← fieldA_append_entry] at hoperands
    obtain ⟨hoperands, hlen⟩ := append_eq_append_iff.mp hoperands
    obtain ⟨hoperands, hvar⟩ := append_eq_append_iff.mp hoperands
    obtain ⟨hA, hreserved⟩ := append_eq_append_iff.mp hoperands
    exact congrArg Except.ok (congr (congr (congr (congrArg _ hA) hreserved) hvar) hlen)
  case txBegin =>
    rw [← fieldA_append_mode] at hoperands
    obtain ⟨hoperands, hmode⟩ := append_eq_append_iff.mp hoperands
    obtain ⟨hA, hreserved⟩ := append_eq_append_iff.mp hoperands
    exact congrArg Except.ok (congr (congr (congrArg _ hA) hreserved) hmode)
  case rxPush | wrByte =>
    rw [← fieldA_append_bytes] at hoperands
    obtain ⟨hoperands, hbyte⟩ := append_eq_append_iff.mp hoperands
    obtain ⟨hA, hreserved⟩ := append_eq_append_iff.mp hoperands
    exact congrArg Except.ok (congr (congr (congrArg _ hA) hreserved) hbyte)
  case tblRead | frRead | wrBits | wrShortBe | wrShortLe =>
    rw [← fieldA_append_fieldB] at hoperands
    obtain ⟨hA, hB⟩ := append_eq_append_iff.mp hoperands
    exact congrArg Except.ok (congr (congrArg _ hA) hB)
  all_goals exact congrArg Except.ok (congrArg _ hoperands)

/-- Settles O2: a decoded command keeps the OP and every operand bit of its word. -/
theorem encodeOfDecode : Obligations.EncodeOfDecode := by
  intro w i h
  obtain ⟨hop, hoperands⟩ := fields_of_decode_ok h
  rw [encode, hop, hoperands, fieldOP_append_fieldAB]

/-- Settles O5: the six words are those of their commands, and 0x05 is in no row of the command map. -/
theorem sampleWordsDecode : Obligations.SampleWordsDecode :=
  ⟨decodeOfEncode (.txBegin 0x51 0 2), decodeOfEncode (.rxPush 0 0 0xAD), decodeOfEncode (.tblWrite 0xB9 0 1 0),
    decodeOfEncode (.seed 0), decodeOfEncode (.wrBits 7 0), decodeOfEncode (.txPop 0),
    (everyWordIsCommandOrIllegal 0x05000000).1 (.inl (by decide))⟩

/-! ## Mask and match (30_encoding.md R112, R113) -/

/-- Fields side by side are zero under a mask exactly when each is under its part of the mask. -/
theorem append_and_eq_zero_iff {m n : Nat} {a mA : BitVec m} {x mX : BitVec n} :
    (a ++ x) &&& (mA ++ mX) = 0 ↔ a &&& mA = 0 ∧ x &&& mX = 0 := by
  rw [BitVec.and_append, ← append_eq_append_iff]
  simp

section Layouts
variable {a mA : Byte}

/-- A and B whole. -/
theorem masked_half {b mB : Half} : (a ++ b : BitVec 24) &&& (mA ++ mB) = 0#24 ↔ a &&& mA = 0 ∧ b &&& mB = 0 :=
  append_and_eq_zero_iff

/-- B as two bytes. -/
theorem masked_bytes {r b mR mB : Byte} :
    (a ++ r ++ b : BitVec 24) &&& (mA ++ mR ++ mB) = 0#24 ↔ (a &&& mA = 0 ∧ r &&& mR = 0) ∧ b &&& mB = 0 :=
  append_and_eq_zero_iff.trans (and_congr_left' append_and_eq_zero_iff)

/-- B as a framing mode. -/
theorem masked_mode {r mR : BitVec 14} {m mM : BitVec 2} :
    (a ++ r ++ m : BitVec 24) &&& (mA ++ mR ++ mM) = 0#24 ↔ (a &&& mA = 0 ∧ r &&& mR = 0) ∧ m &&& mM = 0 :=
  append_and_eq_zero_iff.trans (and_congr_left' append_and_eq_zero_iff)

/-- B as a table entry. -/
theorem masked_entry {r mR : BitVec 7} {v mV : BitVec 1} {l mL : Byte} :
    (a ++ r ++ v ++ l : BitVec 24) &&& (mA ++ mR ++ mV ++ mL) = 0#24 ↔
      ((a &&& mA = 0 ∧ r &&& mR = 0) ∧ v &&& mV = 0) ∧ l &&& mL = 0 :=
  append_and_eq_zero_iff.trans
    (and_congr_left' (append_and_eq_zero_iff.trans (and_congr_left' append_and_eq_zero_iff)))

end Layouts

/-- The part of a row's mask at a reserved field. -/
def reservedMask (n : Nat) : BitVec n := BitVec.allOnes n

/-- The part of a row's mask at a used field. -/
def usedMask (n : Nat) : BitVec n := 0#n

@[simp] theorem and_reservedMask {n : Nat} (x : BitVec n) : x &&& reservedMask n = x := BitVec.and_allOnes

@[simp] theorem and_usedMask {n : Nat} (x : BitVec n) : x &&& usedMask n = 0 := BitVec.and_zero

/-- The mask of a row below its OP, field by field. -/
def operandMask : Instr → BitVec 24
  | .tblWrite _ _ _ _ => usedMask 8 ++ reservedMask 7 ++ usedMask 1 ++ usedMask 8
  | .tblFill _ _ _ _ => reservedMask 8 ++ reservedMask 7 ++ usedMask 1 ++ usedMask 8
  | .txBegin _ _ _ => usedMask 8 ++ reservedMask 14 ++ usedMask 2
  | .rxPush _ _ _ | .wrByte _ _ _ => reservedMask 8 ++ reservedMask 8 ++ usedMask 8
  | .tblRead _ _ | .wrBits _ _ => usedMask 8 ++ reservedMask 16
  | .frRead _ _ | .wrShortBe _ _ | .wrShortLe _ _ => reservedMask 8 ++ usedMask 16
  | _ => reservedMask 24

theorem tableMask_eq (i : Instr) : tableMask i = BitVec.allOnes 8 ++ operandMask i := by
  cases i
  all_goals
    simp only [tableMask, operandMask]
    decide

theorem tableMatch_eq (i : Instr) : tableMatch i = i.opCode ++ 0#24 := by
  cases i
  all_goals
    simp only [tableMatch, Instr.opCode]
    decide

/-- A command's word has the OP its row asks for, so mask and match check its operands alone. -/
theorem mask_match_iff (i : Instr) :
    encode i &&& tableMask i = tableMatch i ↔ i.operands &&& operandMask i = 0 := by
  rw [encode, tableMask_eq, tableMatch_eq, BitVec.and_append, BitVec.and_allOnes, append_eq_append_iff]
  exact and_iff_right rfl

/-! ## The range checks (30_encoding.md R112) -/

/-- The range checks on the fields of a command. -/
def operandsInRange : Instr → Prop
  | .wrBits n _ => 1 ≤ n.toNat ∧ n.toNat ≤ 32
  | .txBegin _ _ m => m ≠ 3
  | .tblWrite _ _ v l | .tblFill _ _ v l => ¬(v = 1 ∧ l ≠ 0)
  | _ => True

/-- The decoder cuts out the fields that the range checks look at in the word. -/
theorem fieldsInRange_iff {w : Word} {i : Instr} (h : decode w = .ok i) : fieldsInRange i w ↔ operandsInRange i := by
  unfold decode at h
  split at h <;> cases h
  all_goals exact Iff.rfl

/-- The argument check is that the reserved fields are zero and the used ones in range. -/
theorem wellFormed_iff (i : Instr) :
    i.wellFormed = true ↔ i.operands &&& operandMask i = 0 ∧ operandsInRange i := by
  cases i
  case tblWrite => simp [wellFormed_tblWrite, Instr.operands, operandMask, masked_entry, operandsInRange]
  case tblFill => simp [wellFormed_tblFill, Instr.operands, operandMask, masked_entry, operandsInRange, and_assoc]
  case txBegin => simp [Instr.wellFormed, Instr.operands, operandMask, masked_mode, operandsInRange]
  case wrBits => simp [Instr.wellFormed, Instr.operands, operandMask, masked_half, operandsInRange, and_assoc]
  case rxPush | wrByte => simp [Instr.wellFormed, Instr.operands, operandMask, masked_bytes, operandsInRange]
  case tblRead | frRead | wrShortBe | wrShortLe =>
    simp [Instr.wellFormed, Instr.operands, operandMask, masked_half, operandsInRange]
  all_goals simp [Instr.wellFormed, Instr.operands, operandMask, operandsInRange]

/-- Settles O4: the word of a command carries its operands, on which mask and match leave the reserved fields. -/
theorem argumentCheckIsTableRow : Obligations.ArgumentCheckIsTableRow := by
  intro w i h
  rw [wellFormed_iff, fieldsInRange_iff h, ← mask_match_iff, encodeOfDecode w i h]

end Sys2Proof.Machine
end

section
/-! SUPPORT. Everything a command can do, once, and the rules over all commands that follow (60_exceptions.md section 1). -/
namespace Sys2Proof.Machine

/-! ## What a command that succeeds has done -/

/-- `u` is what the pseudocode of `i` makes of `s` when it ends with `ok`; the premises are what
later proofs need of the checks it has passed. -/
inductive Effect (s : State) : Instr → State → Prop
  | nop (r) : Effect s (.nop r) s
  | tblRead (k r) : Effect s (.tblRead k r) s
  | frRead (r x) : Effect s (.frRead r x) s
  | seed (r) (hsession : s.session = none) (hlocked : s.tblLock = true) :
      Effect s (.seed r) { s with session := some (newSession s) }
  | close (r) : Effect s (.close r) (closeSession s)
  | reset (r) : Effect s (.reset r) (hardReset s)
  | tblWrite (k r v l) (hentry : ¬(v = 1 ∧ l ≠ 0)) (hunlocked : s.tblLock = false) :
      Effect s (.tblWrite k r v l) { s with table := s.table.set k (entryOperand v l) }
  | tblFill (ra rb v l) (hentry : ¬(v = 1 ∧ l ≠ 0)) (hunlocked : s.tblLock = false) :
      Effect s (.tblFill ra rb v l) { s with table := Array256.fill (entryOperand v l) }
  | tblLock (r) (hcomplete : s.tblLock = true ∨ ∀ k, (s.table.get k).valid = true) :
      Effect s (.tblLock r) { s with tblLock := true }
  | rxPush (ra rb b ks v) {u} (hsession : s.session = some ks) (hbyte : deframeByte ks b s = .ok (u, v)) :
      Effect s (.rxPush ra rb b) u
  | frPop (r f rest) (hfrq : s.frq = f :: rest) : Effect s (.frPop r) { s with frq := rest }
  | txBegin (o r m x) : Effect s (.txBegin o r m) (openBuilder o x s)
  | txAbort (r) : Effect s (.txAbort r) (closeBuilder s)
  | bitMode (r) (hopen : s.txOpen = true) (hbytes : s.txBitMode = false) :
      Effect s (.bitMode r)
        { s with txBitPos := BitVec.ofNat 19 (8 * s.txBytePos.toNat), txBitMode := true }
  | byteMode (r) (hopen : s.txOpen = true) (hbits : s.txBitMode = true) :
      Effect s (.byteMode r)
        { s with txBytePos := BitVec.ofNat 16 (ceil8 s.txBitPos.toNat), txBitMode := false }
  | wrBits (n r) (hopen : s.txOpen = true) (hbits : s.txBitMode = true)
      (hroom : s.txBitPos.toNat + n.toNat ≤ 8 * s.cfg.txCap) :
      Effect s (.wrBits n r)
        { s with txBuf := bitsWritten n s, txBitPos := BitVec.ofNat 19 (s.txBitPos.toNat + n.toNat) }
  | putBytes {i} (bs : List Byte) (hopen : s.txOpen = true) (hbytes : s.txBitMode = false)
      (hroom : s.txBytePos.toNat + bs.length ≤ s.cfg.txCap) (hi : appendedBytes i = some bs.length) :
      Effect s i
        { s with
          txBuf := s.txBuf.writeBytes s.txBytePos.toNat bs
          txBytePos := BitVec.ofNat 16 (s.txBytePos.toNat + bs.length) }
  | wrPlaceholder (r) (hopen : s.txOpen = true) (hbytes : s.txBitMode = false)
      (hroom : s.txBytePos.toNat + 1 ≤ s.cfg.txCap) (hph : s.ph.length ≠ s.cfg.maxPh) :
      Effect s (.wrPlaceholder r)
        { s with
          ph := s.ph ++ [s.txBytePos]
          txBuf := s.txBuf.write s.txBytePos.toNat 0
          txBytePos := BitVec.ofNat 16 (s.txBytePos.toNat + 1) }
  | txSend (r ks) (hsession : s.session = some ks)
      (hroom : s.txq.length + 1 + s.txMode.prefixBytes + s.txBytePos.toNat ≤ s.cfg.txfBytes) :
      Effect s (.txSend r) (sentState ks s)
  | txPop (r e rest) (htxq : s.txq = e :: rest) : Effect s (.txPop r) { s with txq := rest }

open CmdEnd (OkMeets)

/-- A byte write that succeeds has put all its bytes (43_framer.md R268). -/
theorem putBytes_effect {i : Instr} {bs : List Byte} {s : State} (hi : appendedBytes i = some bs.length) :
    OkMeets (Effect s i) (putBytes bs s) := by
  intro u v h
  obtain ⟨hopen, hbytes, hroom, -, rfl⟩ := putBytes_ok.mp h
  exact .putBytes bs hopen hbytes hroom hi

/-- Every command raises, or it has had its effect and ends with OK (60_exceptions.md R341, R342). -/
theorem exec_effect {i : Instr} {s t : State} (h : exec i s = .next t) :
    (∃ u v, Effect s i u ∧ t = succeed i.opCode v u) ∨ ∃ e, t = raise i.opCode e s := by
  cases i
  case nop => exact endCommand_next_of_okMeets h (.guard fun _ => .ok (.nop _))
  case close => exact endCommand_next_of_okMeets h (.guard fun _ => .ok (.close _))
  case reset => exact endCommand_next_of_okMeets h (.guard fun _ => .ok (.reset _))
  case tblRead => exact endCommand_next_of_okMeets h (.guard fun _ => .ok (.tblRead _ _))
  case seed =>
    exact endCommand_next_of_okMeets h (.guard fun _ => .guard fun hsome => .guard fun hlock =>
      .ok (.seed _ (Option.not_isSome_iff_eq_none.mp hsome) (Bool.eq_true_of_not_eq_false hlock)))
  case tblWrite =>
    exact endCommand_next_of_okMeets h (.guard fun _ => .guard fun hentry => .guard fun hlock =>
      .ok (.tblWrite _ _ _ _ (mt entryMalformed_eq_true.mpr hentry) (Bool.eq_false_iff.mpr hlock)))
  case tblFill =>
    exact endCommand_next_of_okMeets h (.guard fun _ => .guard fun hentry => .guard fun hlock =>
      .ok (.tblFill _ _ _ _ (mt entryMalformed_eq_true.mpr hentry) (Bool.eq_false_iff.mpr hlock)))
  case tblLock =>
    refine endCommand_next_of_okMeets h (.guard fun _ => .guard fun hcheck => .ok (.tblLock _ ?_))
    simpa only [table_all_valid_eq_false, not_and_or, not_exists, Bool.not_eq_false] using hcheck
  case rxPush =>
    refine endCommand_next_of_okMeets h (.guard fun _ => ?_)
    cases hsession : s.session with
    | none => exact .error
    | some ks => exact fun u v hbyte => .rxPush _ _ _ ks v hsession hbyte
  case frRead =>
    refine endCommand_next_of_okMeets h (.guard fun _ => ?_)
    cases s.frq with
    | nil => exact .error
    | cons f rest => exact .guard fun _ => .ok (.frRead _ _)
  case frPop =>
    refine endCommand_next_of_okMeets h (.guard fun _ => ?_)
    cases hfrq : s.frq with
    | nil => exact .error
    | cons f rest => exact .ok (.frPop _ f rest hfrq)
  case txBegin o r m =>
    refine endCommand_next_of_okMeets h (.guard fun _ => ?_)
    cases modeOperand m with
    | none => exact .error
    | some x => exact .guard fun _ => .ok (.txBegin o r m x)
  case txAbort => exact endCommand_next_of_okMeets h (.guard fun _ => .guard fun _ => .ok (.txAbort _))
  case bitMode =>
    exact endCommand_next_of_okMeets h (.guard fun _ => .guard fun hclosed => .guard fun hbits =>
      .ok (.bitMode _ (Bool.eq_true_of_not_eq_false hclosed) (Bool.eq_false_iff.mpr hbits)))
  case byteMode =>
    exact endCommand_next_of_okMeets h (.guard fun _ => .guard fun hclosed => .guard fun hbytes =>
      .ok (.byteMode _ (Bool.eq_true_of_not_eq_false hclosed) (Bool.eq_true_of_not_eq_false hbytes)))
  case wrBits =>
    exact endCommand_next_of_okMeets h
      (.guard fun _ => .guard fun hclosed => .guard fun hbytes => .guard fun hfull =>
        .ok (.wrBits _ _ (Bool.eq_true_of_not_eq_false hclosed) (Bool.eq_true_of_not_eq_false hbytes)
          (not_lt.mp hfull)))
  case wrByte v => exact endCommand_next_of_okMeets h (.guard fun _ => putBytes_effect (bs := [v]) rfl)
  case wrShortBe v => exact endCommand_next_of_okMeets h (.guard fun _ => putBytes_effect (bs := bytesShortBe v) rfl)
  case wrShortLe v => exact endCommand_next_of_okMeets h (.guard fun _ => putBytes_effect (bs := bytesShortLe v) rfl)
  case wrIntBe =>
    exact endCommand_next_of_okMeets h (.guard fun _ => putBytes_effect (bs := bytesIntBe s.data0) rfl)
  case wrLongBe =>
    exact endCommand_next_of_okMeets h (.guard fun _ => putBytes_effect (bs := bytesLongBe s.data1 s.data0) rfl)
  case wrPlaceholder =>
    exact endCommand_next_of_okMeets h
      (.guard fun _ => .guard fun hclosed => .guard fun hbits => .guard fun hfull => .guard fun hph =>
        .ok (.wrPlaceholder _ (Bool.eq_true_of_not_eq_false hclosed) (Bool.eq_false_iff.mpr hbits)
          (not_lt.mp hfull) hph))
  case txSend =>
    refine endCommand_next_of_okMeets h (.guard fun _ => ?_)
    cases hsession : s.session with
    | none => exact .error
    | some ks =>
      refine .guard fun _ => .guard fun _ => .guard fun _ => .guard fun hfull => .ok (.txSend _ ks hsession ?_)
      rw [← length_framingBytes s.txMode s.txBytePos.toNat]
      exact not_lt.mp hfull
  case txPop =>
    refine endCommand_next_of_okMeets h (.guard fun _ => ?_)
    cases htxq : s.txq with
    | nil => exact .error
    | cons e rest => exact .ok (.txPop _ e rest htxq)

/-! ## What every success leaves unchanged -/

/-- What an inbound byte may change: the deframer, the session and FRQ (42_deframer.md R220). -/
abbrev ChangesDeframer (s u : State) : Prop :=
  u = { s with
    session := u.session, dfPhase := u.dfPhase, dfOpc := u.dfOpc, dfLen := u.dfLen, dfCnt := u.dfCnt,
    dfBuf := u.dfBuf, frq := u.frq }

theorem deframeByte_changesDeframer {ks : Session} {b : Byte} {s u : State} {v : Word}
    (h : deframeByte ks b s = .ok (u, v)) : ChangesDeframer s u := by
  have hmeets : OkMeets (ChangesDeframer s) (deframeByte ks b s) := by
    unfold deframeByte
    cases s.dfPhase with
    | opc => exact .ite (fun _ => .emitFrame fun _ => rfl) fun _ => .ite (fun _ => .ok rfl) fun _ => .ok rfl
    | len => exact .ite (fun _ => .emitFrame fun _ => rfl) fun _ => .ok rfl
    | pay => exact .ite (fun _ => .emitFrame fun _ => rfl) fun _ => .ok rfl
  exact hmeets u v h

theorem Effect.cfg {i : Instr} {s u : State} (h : Effect s i u) : u.cfg = s.cfg := by
  cases h
  case rxPush hbyte => exact (congrArg State.cfg (deframeByte_changesDeframer hbyte) :)
  all_goals rfl

theorem Effect.rst {i : Instr} {s u : State} (h : Effect s i u) : u.rst = s.rst := by
  cases h
  case rxPush hbyte => exact (congrArg State.rst (deframeByte_changesDeframer hbyte) :)
  all_goals rfl

/-- Of the commands that succeed only RESET writes ERRLOG (60_exceptions.md R342). -/
theorem Effect.errLog {i : Instr} {s u : State} (h : Effect s i u) (hreset : i.opCode ≠ 0x03) :
    u.errLog = s.errLog := by
  cases h
  case rxPush hbyte => exact (congrArg State.errLog (deframeByte_changesDeframer hbyte) :)
  case reset => exact absurd rfl hreset
  all_goals rfl

/-- No command changes the parameters (00_scope.md R8). -/
theorem exec_cfg {i : Instr} {s t : State} (h : exec i s = .next t) : t.cfg = s.cfg := by
  obtain ⟨u, v, heffect, rfl⟩ | ⟨e, rfl⟩ := exec_effect h
  · exact heffect.cfg
  · rfl

/-! ## The rules over all commands -/

/-- A command always ends (60_exceptions.md R345). -/
theorem exec_total (i : Instr) (s : State) : ∃ t, exec i s = .next t := by
  cases i
  all_goals exact endCommand_total _ _ _

/-- Settles O10: a code other than OK is that of a `raise`. -/
theorem failureHasNoOtherEffect : Obligations.FailureHasNoOtherEffect := by
  intro i s t h hcode
  obtain ⟨u, v, -, rfl⟩ | ⟨e, rfl⟩ := exec_effect h
  · exact absurd (succeed_code i.opCode v u) hcode
  · rw [raise_code]
    exact ⟨h, rfl, rfl⟩

/-- Settles O11: both ends of a command write RESULT from its OP and a code, and only `raise` writes ERRLOG, RESET
aside. -/
theorem everyCommandWritesResult : Obligations.EveryCommandWritesResult := by
  intro i s
  obtain ⟨t, h⟩ := exec_total i s
  refine ⟨t, h, ?_⟩
  obtain ⟨u, v, heffect, rfl⟩ | ⟨e, rfl⟩ := exec_effect h
  · have hcode := succeed_code i.opCode v u
    exact ⟨resultWord_op i.opCode 0x00, resultWord_high i.opCode 0x00, .inl hcode, fun hno => absurd hcode hno,
      fun _ => heffect.errLog⟩
  · rw [raise_code]
    exact ⟨resultWord_op i.opCode e.code, resultWord_high i.opCode e.code, .inr e.code_range, fun _ => ⟨rfl, rfl⟩,
      fun hzero => absurd hzero e.code_ne_zero⟩

theorem opCode_of_session_set {i : Instr} {s : State} (hnone : s.session = none) (h : sessionAfter i s ≠ none) :
    i.opCode = 0x01 := by
  cases i
  case seed => rfl
  all_goals exact absurd (by simp [sessionAfter, hnone]) h

theorem opCode_of_session_cleared {i : Instr} {s : State} (hlive : s.session ≠ none) (h : sessionAfter i s = none) :
    i.opCode = 0x02 ∨ i.opCode = 0x03 := by
  cases i
  case close => exact .inl rfl
  case reset => exact .inr rfl
  case rxPush =>
    rw [sessionAfter] at h
    split_ifs at h
    · exact absurd (Option.map_eq_none_iff.mp h) hlive
    · exact absurd h hlive
  all_goals exact absurd h (by simp [sessionAfter, hlive])

/-- Settles O14: a failure keeps the session, a success leaves `sessionAfter`. -/
theorem sessionChangesOnlyBySeedCloseReset : Obligations.SessionChangesOnlyBySeedCloseReset := by
  refine ⟨reset_session, fun i s t h => ?_⟩
  have hsession := exec_session h
  by_cases hcode : t.code = 0
  · rw [if_pos hcode] at hsession
    rw [hsession]
    exact ⟨fun hnone hset => ⟨opCode_of_session_set hnone hset, hcode⟩,
      fun hlive hcleared => ⟨opCode_of_session_cleared hlive hcleared, hcode⟩⟩
  · rw [if_neg hcode] at hsession
    rw [hsession]
    exact ⟨fun hnone hset => absurd hnone hset, fun hlive hcleared => absurd hcleared hlive⟩

/-- Settles O59: the request is the route behind the test of the line, and the route is one of the parameters. -/
theorem irqRequestFollowsRoute : Obligations.IrqRequestFollowsRoute :=
  ⟨fun _ => ⟨fun hline => if_pos hline, fun hline => if_neg (Bool.eq_false_iff.mp hline)⟩,
    fun _ _ _ h => congrArg Params.irqRoute (exec_cfg h)⟩

end Sys2Proof.Machine
end

section
/-! SUPPORT. The port: an access at an offset of the window, the reads and writes that run no command, and everything a
step can do (20_memory.md sections 1, 4 and 5, 70_reset_and_hazards.md section 1). -/
namespace Sys2Proof.Machine

/-! ## An access at an offset (20_memory.md R81) -/

theorem accessLegal_iff {width offset : Nat} :
    accessLegal width offset = true ↔ width = 4 ∧ offset % 4 = 0 ∧ offset < 0x100 := by
  simp [accessLegal, and_assoc]

theorem portAccess_read (s : State) (width offset : Nat) :
    portAccess (.read width (s.cfg.kfbBase + offset)) s =
      if accessLegal width offset = true then .next { s with resp := .readData (readOffset offset s) }
      else .next (busError s) := by
  rw [portAccess, if_neg (not_lt.mpr (Nat.le_add_right _ _)), Nat.add_sub_cancel_left]

theorem portAccess_write (s : State) (width offset : Nat) (v : Word) :
    portAccess (.write width (s.cfg.kfbBase + offset) v) s =
      if accessLegal width offset = true then windowWrite offset v { s with resp := .written }
      else .next (busError s) := by
  rw [portAccess, if_neg (not_lt.mpr (Nat.le_add_right _ _)), Nat.add_sub_cancel_left]

section AtPort
variable {s : State} {width offset : Nat} {v : Word}

/-- No register shows the level of RST. -/
theorem readOffset_rst (offset : Nat) (s : State) (level : Bool) :
    readOffset offset { s with rst := level } = readOffset offset s := by
  unfold readOffset
  cases regAt offset with
  | none => rfl
  | some r => cases r <;> rfl

theorem step_read (h : accessLegal width offset = true) :
    step (atPort (.read width (s.cfg.kfbBase + offset)) s) = .next (answered (.readData (readOffset offset s)) s) := by
  rw [← readOffset_rst offset s false]
  exact (step_atPort _ s).trans ((portAccess_read { s with rst := false } width offset).trans (if_pos h))

theorem step_write (h : accessLegal width offset = true) :
    step (atPort (.write width (s.cfg.kfbBase + offset) v) s) = windowWrite offset v (answered .written s) :=
  (step_atPort _ s).trans ((portAccess_write { s with rst := false } width offset v).trans (if_pos h))

theorem step_read_illegal (h : ¬accessLegal width offset = true) :
    step (atPort (.read width (s.cfg.kfbBase + offset)) s) = .next (answered .busError s) :=
  (step_atPort _ s).trans ((portAccess_read { s with rst := false } width offset).trans (if_neg h))

theorem step_write_illegal (h : ¬accessLegal width offset = true) :
    step (atPort (.write width (s.cfg.kfbBase + offset) v) s) = .next (answered .busError s) :=
  (step_atPort _ s).trans ((portAccess_write { s with rst := false } width offset v).trans (if_neg h))

end AtPort

/-- Settles O55: these are the accesses that are not legal. -/
theorem busErrorChangesNothing : Obligations.BusErrorChangesNothing := by
  intro s width offset v h
  have hillegal : ¬accessLegal width offset = true := by
    rw [accessLegal_iff]
    omega
  exact ⟨step_read_illegal hillegal, step_write_illegal hillegal⟩

/-! ## CMD writes (10_state.md R43) -/

theorem step_cmd_write (s : State) (w : Word) :
    step (atPort (.write 4 (s.cfg.kfbBase + 0x08) w) s) = commandWrite w (answered .written s) :=
  step_write (by decide)

theorem commandWrite_of_ok {w : Word} {i : Instr} (h : decode w = .ok i) (s : State) : commandWrite w s = exec i s := by
  rw [commandWrite, h]

theorem commandWrite_of_illegal {w : Word} {op : Byte} (h : decode w = .error (.illegal op)) (s : State) :
    commandWrite w s = .next (raise op .illegal s) := by
  rw [commandWrite, h]

/-- Settles O6: the port has taken the access and answered it before the command runs. -/
theorem stepRunsDecodedCommand : Obligations.StepRunsDecodedCommand := fun s w _ h =>
  (step_cmd_write s w).trans (commandWrite_of_ok h _)

/-- Settles O7: the decoder refuses such a word, and the port raises ILLEGAL for it. -/
theorem illegalCommandFails : Obligations.IllegalCommandFails := fun s w hop =>
  have hdecode : decode w = .error (.illegal (w.extractLsb' 24 8)) := (everyWordIsCommandOrIllegal w).1 hop
  (step_cmd_write s w).trans ((commandWrite_of_illegal hdecode _).trans (next_raise_eq_failsWith _ .illegal _))

/-! ## Reads (20_memory.md R88) -/

/-- The registers end at offset 0x40 (10_state.md R55). -/
theorem regAt_eq_none {offset : Nat} (h : 0x44 ≤ offset) : regAt offset = none := by
  cases hreg : regAt offset with
  | none => rfl
  | some r =>
    have hlast : r.offset ≤ 0x40 := by cases r <;> decide
    have hoffset := eq_offset_of_regAt hreg
    omega

/-- Settles O48: an aligned offset below 0x100 is legal, and a legal read writes the response alone. -/
theorem readChangesNothing : Obligations.ReadChangesNothing :=
  ⟨fun _ _ haligned hwindow => step_read (accessLegal_iff.mpr ⟨rfl, haligned, hwindow⟩),
    fun s => ⟨readOffset_offset .result s, readOffset_offset .rval s, readOffset_offset .data0 s,
      readOffset_offset .data1 s, readOffset_offset .data2 s, readOffset_offset .data3 s,
      readOffset_offset .errLog s, readOffset_offset .irqEn s⟩⟩

/-- Settles O51: a reserved offset names no register. -/
theorem constantOffsetsRead : Obligations.ConstantOffsetsRead :=
  fun s => ⟨readOffset_id s, readOffset_offset .cmd s, fun _ hreserved _ _ => by
    rw [readOffset, regAt_eq_none hreserved]⟩

/-! ## Writes that run no command (20_memory.md R87) -/

/-- Every register but CMD is stored to. -/
theorem windowWrite_of_reg {r : Reg} (h : r ≠ .cmd) (v : Word) (s : State) :
    windowWrite r.offset v s = .next (storeReg r v s) := by
  cases r
  case cmd => exact absurd rfl h
  all_goals rfl

theorem windowWrite_of_reserved {offset : Nat} (h : regAt offset = none) (v : Word) (s : State) :
    windowWrite offset v s = .next s := by
  rw [windowWrite, h]

/-- Clearing the bits written 1 (10_state.md R47). -/
theorem getLsbD_clear (x v : Word) (k : Nat) : (x &&& ~~~v).getLsbD k = (x.getLsbD k && !v.getLsbD k) := by
  rw [BitVec.getLsbD_and, BitVec.getLsbD_not]
  by_cases hk : k < 32
  · simp [hk]
  · simp [BitVec.getLsbD_of_ge x k (not_lt.mp hk)]

/-- Keeping the low three bits (10_state.md R48). -/
theorem getLsbD_low_three (v : Word) (k : Nat) : (v &&& 7).getLsbD k = (decide (k < 3) && v.getLsbD k) := by
  have hseven : (7#32).getLsbD k = decide (k < 3) := Nat.testBit_two_pow_sub_one 3 k
  rw [BitVec.getLsbD_and, Bool.and_comm]
  exact congrArg (· && v.getLsbD k) hseven

/-- Settles O53, register by register. -/
theorem hostWritesToRegisters : Obligations.HostWritesToRegisters := fun s v =>
  ⟨step_write (by decide), step_write (by decide), step_write (by decide), step_write (by decide),
    ⟨_, step_write (by decide), getLsbD_clear s.errLog v, rfl⟩, ⟨_, step_write (by decide), getLsbD_low_three v, rfl⟩⟩

/-- The offsets of the registers a write does something to. -/
theorem storeReg_of_readOnly {r : Reg} (h : r.offset ∉ [0x08, 0x14, 0x18, 0x1C, 0x20, 0x24, 0x28]) (v : Word)
    (s : State) : r ≠ .cmd ∧ storeReg r v s = s := by
  cases r
  case cmd | data0 | data1 | data2 | data3 | errLog | irqEn => exact absurd (by decide) h
  all_goals exact ⟨nofun, rfl⟩

/-- Settles O54: such an offset names a register that a write leaves alone, or none. -/
theorem readOnlyOffsetsIgnoreWrites : Obligations.ReadOnlyOffsetsIgnoreWrites := by
  intro s v offset haligned hwindow hreadOnly
  rw [step_write (accessLegal_iff.mpr ⟨rfl, haligned, hwindow⟩)]
  cases hreg : regAt offset with
  | none => exact windowWrite_of_reserved hreg v _
  | some r =>
    obtain rfl := eq_offset_of_regAt hreg
    obtain ⟨hcmd, hkept⟩ := storeReg_of_readOnly hreadOnly v (answered .written s)
    rw [windowWrite_of_reg hcmd, hkept]

/-! ## Everything a step can do (10_state.md R30) -/

/-- `t` is what one step makes of `s`; `rest` is what is still to come at the port. -/
inductive StepTo (s : State) : State → Prop
  /-- Nothing but the answer to an access, or an idle step. -/
  | answer (hrst : s.rst = false) (rest r) : StepTo s { s with port := rest, resp := r }
  /-- RST is deasserted. -/
  | release (rest) : StepTo s { s with rst := false, port := rest }
  /-- RST is asserted, or is held through an access or an idle step. -/
  | reset (u) (hrst : u.rst = true) (hcfg : u.cfg = s.cfg) : StepTo s (hardReset u)
  /-- A write to a register other than CMD. -/
  | store (hrst : s.rst = false) (rest reg v) :
      StepTo s (storeReg reg v { s with port := rest, resp := .written })
  /-- A CMD write of a word that is no command. -/
  | illegal (hrst : s.rst = false) (rest op) :
      StepTo s (raise op .illegal { s with port := rest, resp := .written })
  /-- A CMD write of a command. -/
  | command (hrst : s.rst = false) (rest i) {t} (h : exec i { s with port := rest, resp := .written } = .next t) :
      StepTo s t

section StepTo
variable {s : State} (hrst : s.rst = false) (rest : List PortEvent)
include hrst

theorem commandWrite_stepTo (w : Word) :
    ∃ t, commandWrite w { s with port := rest, resp := .written } = .next t ∧ StepTo s t := by
  cases hdecode : decode w with
  | ok i =>
    obtain ⟨t, ht⟩ := exec_total i { s with port := rest, resp := .written }
    exact ⟨t, (commandWrite_of_ok hdecode _).trans ht, .command hrst rest i ht⟩
  | error e =>
    cases e with
    | illegal op => exact ⟨_, commandWrite_of_illegal hdecode _, .illegal hrst rest op⟩

theorem windowWrite_stepTo (offset : Nat) (v : Word) :
    ∃ t, windowWrite offset v { s with port := rest, resp := .written } = .next t ∧ StepTo s t := by
  cases hreg : regAt offset with
  | none => exact ⟨_, windowWrite_of_reserved hreg v _, .answer hrst rest .written⟩
  | some r =>
    obtain rfl := eq_offset_of_regAt hreg
    by_cases hcmd : r = .cmd
    · subst hcmd
      exact commandWrite_stepTo hrst rest v
    · exact ⟨_, windowWrite_of_reg hcmd v _, .store hrst rest r v⟩

theorem portAccess_stepTo (a : Access) : ∃ t, portAccess a { s with port := rest } = .next t ∧ StepTo s t := by
  cases a with
  | read width addr =>
    rw [portAccess]
    split_ifs
    · exact ⟨_, rfl, .answer hrst rest _⟩
    · exact ⟨_, rfl, .answer hrst rest _⟩
    · exact ⟨_, rfl, .answer hrst rest _⟩
  | write width addr v =>
    rw [portAccess]
    split_ifs
    · exact ⟨_, rfl, .answer hrst rest _⟩
    · exact windowWrite_stepTo hrst rest _ v
    · exact ⟨_, rfl, .answer hrst rest _⟩

end StepTo

/-! ## Events and idle steps -/

section Events
variable {s : State} {rest : List PortEvent}

theorem step_idle (hport : s.port = []) (hrst : s.rst = false) : step s = .next s := by
  simp [step, portStep, hport, idle, hrst]

theorem step_held_idle (hport : s.port = []) (hrst : s.rst = true) : step s = .next (hardReset s) := by
  simp [step, portStep, hport, idle, hrst]

theorem step_held_access {a : Access} (hport : s.port = .access a :: rest) (hrst : s.rst = true) :
    step s = .next { hardReset s with port := rest, resp := .unspecified } := by
  simp [step, portStep, hport, handleEvent, hrst, hardReset]

theorem step_assert (hport : s.port = .rst true :: rest) :
    step s = .next { hardReset s with rst := true, port := rest } := by
  simp [step, portStep, hport, handleEvent, hardReset]

theorem step_release (hport : s.port = .rst false :: rest) : step s = .next { s with rst := false, port := rest } := by
  simp [step, portStep, hport, handleEvent]

end Events

/-- A step always ends in a next state, and it is one of `StepTo`. -/
theorem step_stepTo (s : State) : ∃ t, step s = .next t ∧ StepTo s t := by
  cases hport : s.port with
  | nil =>
    cases hrst : s.rst with
    | false => exact ⟨s, step_idle hport hrst, .answer hrst s.port s.resp⟩
    | true => exact ⟨_, step_held_idle hport hrst, .reset s hrst rfl⟩
  | cons e rest =>
    cases e with
    | rst level =>
      cases level with
      | true => exact ⟨_, step_assert hport, .reset { s with rst := true, port := rest } rfl rfl⟩
      | false => exact ⟨_, step_release hport, .release rest⟩
    | access a =>
      cases hrst : s.rst with
      | false =>
        rw [step_access hport hrst]
        exact portAccess_stepTo hrst rest a
      | true =>
        exact ⟨_, step_held_access hport hrst, .reset { s with port := rest, resp := .unspecified } hrst rfl⟩

/-- Settles O8: every event at the port has a next state, commands included (`exec_total`). -/
theorem everyStepCompletes : Obligations.EveryStepCompletes := fun s =>
  have ⟨t, h, _⟩ := step_stepTo s
  ⟨t, h⟩

/-- Settles O47: this is the idle step. -/
theorem noAutonomousStep : Obligations.NoAutonomousStep := fun _ => step_idle

/-- The elements a reset writes do not include the port. -/
theorem State.HasResetValues.withPort {t : State} (h : t.HasResetValues) (level : Bool) (rest : List PortEvent) :
    ({ t with rst := level, port := rest } : State).HasResetValues :=
  { h with }

/-- Settles O56, event by event. -/
theorem rstResetsAndHolds : Obligations.RstResetsAndHolds := by
  refine ⟨fun s rest hport => ?assert, fun s hrst hport => ?held, fun s a rest hreset hrst hport => ?access,
    fun s rest hport => step_release hport, fun s a rest hport => step_release hport⟩
  case assert =>
    exact ⟨_, step_assert hport, (hardReset_hasResetValues s).withPort true rest, rfl, rfl, rfl, rfl⟩
  case held =>
    exact ⟨_, step_held_idle hport hrst, hardReset_hasResetValues s, rfl, hrst, hport, rfl, id⟩
  case access => rw [step_held_access hport hrst, hreset]

end Sys2Proof.Machine
end

section
/-! SUPPORT. The invariant of a run: each effect of a command keeps it, and so does every step (10_state.md sections 2 to
7). -/
namespace Sys2Proof.Machine
open CmdEnd (OkMeets)

/-! ## Reset -/

/-- The invariant's clause on RST says nothing of a state in which it is deasserted. -/
theorem rst_holds_of_deasserted {s : State} (hrst : s.rst = false) : s.rst = true → hardReset s = s :=
  fun h => absurd h (Bool.eq_false_iff.mp hrst)

/-- A reset makes the invariant hold, whatever it found, as long as the parameters are legal. -/
theorem hardReset_inv {s : State} (hlegal : s.cfg.Legal) : (hardReset s).Inv where
  cfg_legal := hlegal
  session_locked := fun h => absurd rfl h
  locked_valid := nofun
  variable_len := fun i h => by simp [TableEntry.empty] at h
  no_session := fun _ => ⟨rfl, rfl, rfl⟩
  phase_opc := fun _ => ⟨rfl, rfl, rfl⟩
  phase_len := nofun
  phase_pay := nofun
  dfBuf_wf := rfl
  dfBuf_bound := nofun
  frq_depth := Nat.zero_le _
  frq_len := nofun
  closed := fun _ => ⟨rfl, rfl, rfl, rfl, rfl, rfl⟩
  bytePos_bound := Nat.zero_le _
  bitPos_bound := Nat.zero_le _
  bitMode_pos := nofun
  txBuf_wf := rfl
  txBuf_bound := nofun
  ph_bound := Nat.zero_le _
  ph_written := nofun
  txq_bound := Nat.zero_le _
  result_high := by simp
  errLog_bits := BitVec.zero_and
  irqEn_bits := BitVec.zero_and
  rst_holds := fun _ => rfl

/-- The parameters' defaults are in their ranges (00_scope.md R8). -/
theorem default_legal : Params.default.Legal := by
  constructor <;> decide

/-- Settles O16: the state after reset is what a reset makes of itself, and its builder is closed. -/
theorem invariantAtReset : Obligations.InvariantAtReset :=
  ⟨hardReset_inv (s := State.reset) default_legal, nofun⟩

/-! ## Two facts about the builder -/

theorem length_sentEntries (ks : Session) (s : State) :
    (sentEntries ks s).length = 1 + s.txMode.prefixBytes + s.txBytePos.toNat := by
  rw [sentEntries, length_markMessage, length_outboundMessage, length_framingBytes]

/-- Rounding a bit cursor up to a byte does not take it back. -/
theorem le_mul_ceil8 (p : Nat) : p ≤ 8 * ceil8 p := by
  unfold ceil8
  omega

/-! ## The writes of a command, each keeping the invariant -/

section Kept
variable {s : State} (hinv : s.Inv) (hrst : s.rst = false)
include hinv hrst

/-! ### The end of a command and the builder opened or closed -/

theorem succeed_inv (op : Byte) (v : Word) : (succeed op v s).Inv :=
  { hinv with result_high := resultWord_high op 0x00, rst_holds := rst_holds_of_deasserted hrst }

theorem raise_inv (op : Byte) (e : ErrorCode) : (raise op e s).Inv :=
  { hinv with
    result_high := resultWord_high op e.code
    errLog_bits := by
      rw [raise_errLog, BitVec.and_or_distrib_right, hinv.errLog_bits, e.errBit_fits, BitVec.or_self]
    rst_holds := rst_holds_of_deasserted hrst }

theorem closeBuilder_inv : (closeBuilder s).Inv :=
  { hinv with
    closed := fun _ => ⟨rfl, rfl, rfl, rfl, rfl, rfl⟩
    bytePos_bound := Nat.zero_le _
    bitPos_bound := Nat.zero_le _
    bitMode_pos := nofun
    ph_bound := Nat.zero_le _
    ph_written := nofun
    rst_holds := rst_holds_of_deasserted hrst }

theorem closeSession_inv : (closeSession s).Inv :=
  { closeBuilder_inv hinv hrst with
    session_locked := fun h => absurd rfl h
    no_session := fun _ => ⟨rfl, rfl, rfl⟩
    phase_opc := fun _ => ⟨rfl, rfl, rfl⟩
    phase_len := nofun
    phase_pay := nofun
    frq_depth := Nat.zero_le _
    frq_len := nofun
    txq_bound := Nat.zero_le _
    rst_holds := rst_holds_of_deasserted hrst }

theorem openBuilder_inv (o : Byte) (m : TxMode) : (openBuilder o m s).Inv :=
  { hinv with
    closed := nofun
    bytePos_bound := Nat.zero_le _
    bitPos_bound := Nat.zero_le _
    bitMode_pos := nofun
    txBuf_wf := rfl
    txBuf_bound := nofun
    ph_bound := Nat.zero_le _
    ph_written := nofun
    rst_holds := rst_holds_of_deasserted hrst }

/-! ### The session and the table -/

theorem seed_inv (hlocked : s.tblLock = true) : ({ s with session := some (newSession s) } : State).Inv :=
  { hinv with
    session_locked := fun _ => hlocked
    no_session := nofun
    rst_holds := rst_holds_of_deasserted hrst }

/-- A table whose variable entries have LEN = 0 may replace one that is not locked. -/
theorem table_inv {t : Array256 TableEntry} (hunlocked : s.tblLock = false)
    (ht : ∀ k, (t.get k).var = true → (t.get k).len = 0) : ({ s with table := t } : State).Inv :=
  { hinv with
    locked_valid := fun hlock => absurd hlock (Bool.eq_false_iff.mp hunlocked)
    variable_len := ht
    rst_holds := rst_holds_of_deasserted hrst }

theorem tblLock_inv (hcomplete : s.tblLock = true ∨ ∀ k, (s.table.get k).valid = true) :
    ({ s with tblLock := true } : State).Inv :=
  { hinv with
    session_locked := fun _ => rfl
    locked_valid := fun _ => hcomplete.elim hinv.locked_valid id
    rst_holds := rst_holds_of_deasserted hrst }

/-! ### The queues -/

theorem frPop_inv {f : Frame} {rest : List Frame} (hfrq : s.frq = f :: rest) :
    ({ s with frq := rest } : State).Inv := by
  have hdepth := hinv.frq_depth
  have hlen := hinv.frq_len
  rw [hfrq] at hdepth hlen
  exact { hinv with
    no_session := fun hnone => by
      obtain ⟨-, hempty, -⟩ := hinv.no_session hnone
      exact absurd (hfrq.symm.trans hempty) nofun
    frq_depth := (Nat.le_succ _).trans hdepth
    frq_len := fun g hg => hlen g (List.mem_cons_of_mem f hg)
    rst_holds := rst_holds_of_deasserted hrst }

theorem txPop_inv {e : TxEntry} {rest : List TxEntry} (htxq : s.txq = e :: rest) :
    ({ s with txq := rest } : State).Inv := by
  have hbound := hinv.txq_bound
  rw [htxq] at hbound
  exact { hinv with
    no_session := fun hnone => by
      obtain ⟨-, -, hempty⟩ := hinv.no_session hnone
      exact absurd (htxq.symm.trans hempty) nofun
    txq_bound := (Nat.le_succ _).trans hbound
    rst_holds := rst_holds_of_deasserted hrst }

theorem txSend_inv {ks : Session} (hsession : s.session = some ks)
    (hroom : s.txq.length + 1 + s.txMode.prefixBytes + s.txBytePos.toNat ≤ s.cfg.txfBytes) :
    (sentState ks s).Inv :=
  { closeBuilder_inv hinv hrst with
    session_locked := fun _ => hinv.session_locked (by simp [hsession])
    no_session := nofun
    txq_bound := by
      have hlength := length_sentEntries ks s
      simp only [sentState, List.length_append, closeBuilder_cfg]
      omega
    rst_holds := rst_holds_of_deasserted hrst }

/-! ### The builder -/

theorem bitMode_inv (hopen : s.txOpen = true) :
    ({ s with txBitPos := BitVec.ofNat 19 (8 * s.txBytePos.toNat), txBitMode := true } : State).Inv := by
  have hpos : (BitVec.ofNat 19 (8 * s.txBytePos.toNat)).toNat = 8 * s.txBytePos.toNat :=
    toNat_bitPos hinv.cfg_legal (Nat.mul_le_mul_left 8 hinv.bytePos_bound)
  exact { hinv with
    closed := fun hclosed => absurd (hopen.symm.trans hclosed) nofun
    bitPos_bound := hpos.trans_le (Nat.mul_le_mul_left 8 hinv.bytePos_bound)
    bitMode_pos := fun _ => hpos.ge
    rst_holds := rst_holds_of_deasserted hrst }

theorem byteMode_inv (hopen : s.txOpen = true) (hbits : s.txBitMode = true) :
    ({ s with txBytePos := BitVec.ofNat 16 (ceil8 s.txBitPos.toNat), txBitMode := false } : State).Inv := by
  have hcap := ceil8_le hinv.bitPos_bound
  have hpos := toNat_bytePos hinv.cfg_legal hcap
  have hback : s.txBytePos.toNat ≤ ceil8 s.txBitPos.toNat :=
    Nat.le_of_mul_le_mul_left ((hinv.bitMode_pos hbits).trans (le_mul_ceil8 _)) (by decide)
  exact { hinv with
    closed := fun hclosed => absurd (hopen.symm.trans hclosed) nofun
    bytePos_bound := hpos.trans_le hcap
    bitMode_pos := nofun
    ph_written := fun p hp => ((hinv.ph_written p hp).trans_le hback).trans_eq hpos.symm
    rst_holds := rst_holds_of_deasserted hrst }

theorem wrBits_inv {n : Byte} (hopen : s.txOpen = true) (hbits : s.txBitMode = true)
    (hroom : s.txBitPos.toNat + n.toNat ≤ 8 * s.cfg.txCap) :
    ({ s with
      txBuf := bitsWritten n s, txBitPos := BitVec.ofNat 19 (s.txBitPos.toNat + n.toNat) } : State).Inv := by
  have hpos := toNat_bitPos hinv.cfg_legal hroom
  have hmode := hinv.bitMode_pos hbits
  exact { hinv with
    closed := fun hclosed => absurd (hopen.symm.trans hclosed) nofun
    bitPos_bound := hpos.trans_le hroom
    bitMode_pos := fun _ => (hmode.trans (Nat.le_add_right _ _)).trans_eq hpos.symm
    txBuf_wf := Memory.writeBits_wf hinv.txBuf_wf _ _ _
    txBuf_bound := fun c hc => by
      obtain hold | ⟨q, -, hq, hcq⟩ := Memory.mem_writeBits hc
      · exact hinv.txBuf_bound c hold
      · simp only
        omega
    rst_holds := rst_holds_of_deasserted hrst }

/-- Bytes appended at the byte cursor, with the placeholders `ph` of bytes before the new cursor. -/
theorem append_inv {bs : List Byte} {ph : List (BitVec 16)} (hopen : s.txOpen = true) (hbytes : s.txBitMode = false)
    (hroom : s.txBytePos.toNat + bs.length ≤ s.cfg.txCap) (hph : ph.length ≤ s.cfg.maxPh)
    (hwritten : ∀ p ∈ ph, p.toNat < s.txBytePos.toNat + bs.length) :
    ({ s with
      ph := ph
      txBuf := s.txBuf.writeBytes s.txBytePos.toNat bs
      txBytePos := BitVec.ofNat 16 (s.txBytePos.toNat + bs.length) } : State).Inv := by
  have hpos := toNat_bytePos hinv.cfg_legal hroom
  exact { hinv with
    closed := fun hclosed => absurd (hopen.symm.trans hclosed) nofun
    bytePos_bound := hpos.trans_le hroom
    bitMode_pos := fun hbits => absurd (hbytes.symm.trans hbits) nofun
    txBuf_wf := Memory.writeBytes_wf hinv.txBuf_wf _ bs
    txBuf_bound := fun c hc => (Memory.mem_writeBytes hc).elim (hinv.txBuf_bound c) fun h => h.2.trans_le hroom
    ph_bound := hph
    ph_written := fun p hp => (hwritten p hp).trans_eq hpos.symm
    rst_holds := rst_holds_of_deasserted hrst }

/-! ### The deframer -/

/-- KS_DEC advances in a session that goes on. -/
theorem advanceDec_inv {ks ks' : Session} (hsession : s.session = some ks) :
    ({ s with session := some ks' } : State).Inv :=
  { hinv with
    session_locked := fun _ => hinv.session_locked (by simp [hsession])
    no_session := nofun
    rst_holds := rst_holds_of_deasserted hrst }

/-- The length byte of a frame comes next. -/
theorem lengthPhase_inv {opc : Byte} (hsession : s.session ≠ none) (hphase : s.dfPhase = .opc) :
    ({ s with dfOpc := opc, dfPhase := .len } : State).Inv :=
  { hinv with
    no_session := fun hnone => absurd hnone hsession
    phase_opc := nofun
    phase_len := fun _ => (hinv.phase_opc hphase).2
    phase_pay := nofun
    rst_holds := rst_holds_of_deasserted hrst }

/-- The payload of a frame comes next. -/
theorem payloadPhase_inv {opc len : Byte} (hsession : s.session ≠ none) (hlen : len ≠ 0) :
    ({ s with dfOpc := opc, dfLen := len, dfCnt := 0, dfPhase := .pay } : State).Inv :=
  { hinv with
    no_session := fun hnone => absurd hnone hsession
    phase_opc := nofun
    phase_len := nofun
    phase_pay := fun _ => BitVec.toNat_pos_of_ne_zero hlen
    rst_holds := rst_holds_of_deasserted hrst }

/-- A payload byte that is not the last is stored. -/
theorem storePayload_inv {b : Byte} (hphase : s.dfPhase = .pay) (hmore : s.dfCnt.toNat + 1 ≠ s.dfLen.toNat) :
    ({ s with dfBuf := s.dfBuf.write s.dfCnt.toNat b, dfCnt := s.dfCnt + 1 } : State).Inv := by
  have hcnt := hinv.phase_pay hphase
  have hnext : (s.dfCnt + 1).toNat = s.dfCnt.toNat + 1 := by bv_omega
  exact { hinv with
    phase_opc := fun h => absurd (hphase.symm.trans h) nofun
    phase_len := fun h => absurd (hphase.symm.trans h) nofun
    phase_pay := fun _ => by
      simp only [hnext]
      omega
    dfBuf_wf := Memory.write_wf hinv.dfBuf_wf _ b
    dfBuf_bound := fun c hc => (Memory.mem_write hc).elim (hinv.dfBuf_bound c) fun h => by omega
    rst_holds := rst_holds_of_deasserted hrst }

/-- The frame has ended, and no length or count is left of it. -/
theorem opcodePhase_inv {len cnt : Byte} (hlen : len = 0) (hcnt : cnt = 0) :
    ({ s with dfPhase := .opc, dfOpc := 0, dfLen := len, dfCnt := cnt } : State).Inv :=
  { hinv with
    no_session := fun hnone => ⟨rfl, (hinv.no_session hnone).2⟩
    phase_opc := fun _ => ⟨rfl, hlen, hcnt⟩
    phase_len := nofun
    phase_pay := nofun
    rst_holds := rst_holds_of_deasserted hrst }

/-- A frame with as many payload bytes as it says is pushed where FRQ has room. -/
theorem pushFrame_inv {f : Frame} (hsession : s.session ≠ none) (hroom : s.frq.length ≠ s.cfg.frDepth)
    (hf : f.payload.length = f.len.toNat) : ({ s with frq := s.frq ++ [f] } : State).Inv :=
  { hinv with
    no_session := fun hnone => absurd hnone hsession
    frq_depth := by
      have hdepth := hinv.frq_depth
      simp only [List.length_append, List.length_singleton]
      omega
    frq_len := fun g hg => (List.mem_append.mp hg).elim (hinv.frq_len g) fun h => List.mem_singleton.mp h ▸ hf
    rst_holds := rst_holds_of_deasserted hrst }

end Kept

/-! ## An inbound byte, phase by phase (42_deframer.md R220) -/

section DeframeByte
variable {s : State} {ks : Session} {b : Byte} (hinv : s.Inv) (hrst : s.rst = false) (hsession : s.session = some ks)
include hinv hrst hsession

theorem deframeOpcode_inv (hphase : s.dfPhase = .opc) : OkMeets State.Inv (deframeOpcode ks b s) := by
  have hnext := advanceDec_inv (ks' := ks.advanceDec) hinv hrst hsession
  refine .ite (fun _ u v hok => ?done) fun hmore => .ite (fun _ => .ok ?lengthNext) fun hfixed => .ok ?payloadNext
  case done =>
    obtain ⟨hroom, -, rfl⟩ := emitFrame_ok.mp hok
    exact pushFrame_inv hnext hrst nofun hroom rfl
  case lengthNext => exact lengthPhase_inv hnext hrst nofun hphase
  case payloadNext => exact payloadPhase_inv hnext hrst nofun fun hlen => hmore ⟨Bool.eq_false_iff.mpr hfixed, hlen⟩

theorem deframeLength_inv (hphase : s.dfPhase = .len) : OkMeets State.Inv (deframeLength b s) := by
  have hlive : s.session ≠ none := by simp [hsession]
  refine .ite (fun _ u v hok => ?done) fun hb => .ok (payloadPhase_inv hinv hrst hlive hb)
  case done =>
    obtain ⟨hroom, -, rfl⟩ := emitFrame_ok.mp hok
    obtain ⟨hlen, hcnt⟩ := hinv.phase_len hphase
    exact pushFrame_inv (opcodePhase_inv hinv hrst hlen hcnt) hrst hlive hroom rfl

theorem deframePayload_inv (hphase : s.dfPhase = .pay) : OkMeets State.Inv (deframePayload b s) := by
  have hlive : s.session ≠ none := by simp [hsession]
  refine .ite (fun hlast u v hok => ?done) fun hmore => .ok (storePayload_inv hinv hrst hphase hmore)
  case done =>
    obtain ⟨hroom, -, rfl⟩ := emitFrame_ok.mp hok
    exact pushFrame_inv (opcodePhase_inv hinv hrst rfl rfl) hrst hlive hroom (by simpa using hlast)

theorem deframeByte_inv : OkMeets State.Inv (deframeByte ks b s) := by
  unfold deframeByte
  cases hphase : s.dfPhase with
  | opc => exact deframeOpcode_inv hinv hrst hsession hphase
  | len => exact deframeLength_inv hinv hrst hsession hphase
  | pay => exact deframePayload_inv hinv hrst hsession hphase

end DeframeByte

/-! ## Commands -/

/-- The argument check lets no variable entry with a length through (41_size_table.md R199). -/
theorem entryOperand_variable_len {v : BitVec 1} {l : Byte} (hentry : ¬(v = 1 ∧ l ≠ 0))
    (hvar : (entryOperand v l).var = true) : (entryOperand v l).len = 0 :=
  not_not.mp fun hlen => hentry ⟨beq_iff_eq.mp hvar, hlen⟩

/-- Every success keeps the invariant. -/
theorem Effect.inv {i : Instr} {s u : State} (h : Effect s i u) (hinv : s.Inv) (hrst : s.rst = false) : u.Inv := by
  cases h
  case nop | tblRead | frRead => exact hinv
  case seed _ hlocked => exact seed_inv hinv hrst hlocked
  case close => exact closeSession_inv hinv hrst
  case reset => exact hardReset_inv hinv.cfg_legal
  case tblWrite k _ v l hentry hunlocked =>
    refine table_inv hinv hrst hunlocked fun j hvar => ?_
    by_cases hj : j = k
    · subst hj
      rw [Array256.get_set_same] at hvar ⊢
      exact entryOperand_variable_len hentry hvar
    · rw [Array256.get_set_other _ _ hj] at hvar ⊢
      exact hinv.variable_len j hvar
  case tblFill hentry hunlocked =>
    refine table_inv hinv hrst hunlocked fun j hvar => ?_
    rw [Array256.get_fill] at hvar ⊢
    exact entryOperand_variable_len hentry hvar
  case tblLock hcomplete => exact tblLock_inv hinv hrst hcomplete
  case rxPush hsession hbyte => exact deframeByte_inv hinv hrst hsession _ _ hbyte
  case frPop hfrq => exact frPop_inv hinv hrst hfrq
  case txBegin => exact openBuilder_inv hinv hrst _ _
  case txAbort => exact closeBuilder_inv hinv hrst
  case bitMode hopen _ => exact bitMode_inv hinv hrst hopen
  case byteMode hopen hbits => exact byteMode_inv hinv hrst hopen hbits
  case wrBits hopen hbits hroom => exact wrBits_inv hinv hrst hopen hbits hroom
  case putBytes hopen hbytes hroom _ =>
    exact append_inv hinv hrst hopen hbytes hroom hinv.ph_bound fun p hp =>
      (hinv.ph_written p hp).trans_le (Nat.le_add_right _ _)
  case wrPlaceholder hopen hbytes hroom hph =>
    refine append_inv (bs := [0]) hinv hrst hopen hbytes hroom ?bound fun p hp => ?written
    case bound =>
      have hbound := hinv.ph_bound
      simp only [List.length_append, List.length_singleton]
      omega
    case written =>
      obtain hold | hnew := List.mem_append.mp hp
      · exact (hinv.ph_written p hold).trans_le (Nat.le_add_right _ _)
      · exact List.mem_singleton.mp hnew ▸ Nat.lt_succ_self _
  case txSend hsession hroom => exact txSend_inv hinv hrst hsession hroom
  case txPop htxq => exact txPop_inv hinv hrst htxq

/-- Every command keeps the invariant. -/
theorem exec_inv {i : Instr} {s t : State} (h : exec i s = .next t) (hinv : s.Inv) (hrst : s.rst = false) : t.Inv := by
  obtain ⟨u, v, heffect, rfl⟩ | ⟨e, rfl⟩ := exec_effect h
  · exact succeed_inv (heffect.inv hinv hrst) (heffect.rst.trans hrst) i.opCode v
  · exact raise_inv hinv hrst i.opCode e

/-! ## Steps -/

/-- A host write keeps the register masks (10_state.md R47, R48). -/
theorem storeReg_inv {s : State} (hinv : s.Inv) (hrst : s.rst = false) (r : Reg) (v : Word) : (storeReg r v s).Inv := by
  cases r
  case data0 | data1 | data2 | data3 => exact { hinv with rst_holds := rst_holds_of_deasserted hrst }
  case errLog =>
    exact { hinv with
      errLog_bits := by
        rw [storeReg, BitVec.and_assoc, BitVec.and_comm (~~~v), ← BitVec.and_assoc, hinv.errLog_bits]
        exact BitVec.zero_and
      rst_holds := rst_holds_of_deasserted hrst }
  case irqEn =>
    exact { hinv with
      irqEn_bits := by
        rw [storeReg, BitVec.and_assoc]
        exact BitVec.and_zero
      rst_holds := rst_holds_of_deasserted hrst }
  all_goals exact hinv

/-- What waits at the port and what it answered are not the invariant's. -/
theorem answer_inv {s : State} (hinv : s.Inv) (hrst : s.rst = false) (rest : List PortEvent) (r : BusResponse) :
    ({ s with port := rest, resp := r } : State).Inv :=
  { hinv with rst_holds := rst_holds_of_deasserted hrst }

/-- Settles O17, by what the step was. -/
theorem invariantKeptByEveryStep : Obligations.InvariantKeptByEveryStep := by
  intro s t hinv hstep
  obtain ⟨t', hstep', hto⟩ := step_stepTo s
  obtain rfl : t' = t := Host.Outcome.next.inj (hstep'.symm.trans hstep)
  cases hto with
  | answer hrst rest r => exact answer_inv hinv hrst rest r
  | release rest => exact { hinv with rst_holds := rst_holds_of_deasserted rfl }
  | reset u _ hcfg => exact hardReset_inv (hcfg ▸ hinv.cfg_legal)
  | store hrst rest r v => exact storeReg_inv (answer_inv hinv hrst rest .written) hrst r v
  | illegal hrst rest op => exact raise_inv (answer_inv hinv hrst rest .written) hrst op .illegal
  | command hrst rest i hexec => exact exec_inv hexec (answer_inv hinv hrst rest .written) hrst

end Sys2Proof.Machine
end

section
/-! SUPPORT. TX_BUF beyond the cursor of an open builder stays zero (20_memory.md R85, 43_framer.md R250). -/
namespace Sys2Proof.Machine

/-! ## The cursor -/

/-- Where the builder writes next, as a bit position. -/
def State.cursor (s : State) : Nat := if s.txBitMode = true then s.txBitPos.toNat else 8 * s.txBytePos.toNat

theorem State.cursor_of_bitMode {s : State} (h : s.txBitMode = true) : s.cursor = s.txBitPos.toNat := if_pos h

theorem State.cursor_of_byteMode {s : State} (h : s.txBitMode = false) : s.cursor = 8 * s.txBytePos.toNat :=
  if_neg (Bool.eq_false_iff.mp h)

theorem State.unwrittenZero_iff {s : State} :
    s.UnwrittenZero ↔ (s.txOpen = true → ∀ p, s.cursor ≤ p → s.txBuf.readBit p = false) := Iff.rfl

/-- The bits from a byte cursor on are those of the bytes from there on. -/
theorem Memory.readBit_writeBytes_beyond (m : Memory) {a : Nat} {bs : List Byte} {p : Nat}
    (h : 8 * (a + bs.length) ≤ p) : (m.writeBytes a bs).readBit p = m.readBit p := by
  rw [Memory.readBit, Memory.read_writeBytes_outside m a bs (.inr (by omega)), Memory.readBit]

/-- The cursor has moved on to `n`, and the bits from there on are the old ones. -/
theorem State.UnwrittenZero.advance {s u : State} (hzero : s.UnwrittenZero) {n : Nat} (hopen : u.txOpen = s.txOpen)
    (hcursor : u.cursor = n) (hle : s.cursor ≤ n) (hkept : ∀ p, n ≤ p → u.txBuf.readBit p = s.txBuf.readBit p) :
    u.UnwrittenZero := by
  refine State.unwrittenZero_iff.mpr fun hu p hp => ?_
  rw [hcursor] at hp
  rw [hkept p hp]
  exact State.unwrittenZero_iff.mp hzero (hopen ▸ hu) p (hle.trans hp)

/-- Bytes appended at the byte cursor leave the bits beyond the new one. -/
theorem append_unwrittenZero {s : State} {bs : List Byte} {ph : List (BitVec 16)} (hlegal : s.cfg.Legal)
    (hzero : s.UnwrittenZero) (hbytes : s.txBitMode = false) (hroom : s.txBytePos.toNat + bs.length ≤ s.cfg.txCap) :
    ({ s with
      ph := ph
      txBuf := s.txBuf.writeBytes s.txBytePos.toNat bs
      txBytePos := BitVec.ofNat 16 (s.txBytePos.toNat + bs.length) } : State).UnwrittenZero := by
  refine hzero.advance rfl
    ((State.cursor_of_byteMode (by exact hbytes)).trans (congrArg (8 * ·) (toNat_bytePos hlegal hroom))) ?_
    fun p hp => Memory.readBit_writeBytes_beyond _ hp
  rw [State.cursor_of_byteMode hbytes]
  omega

/-! ## Commands and steps -/

/-- Every success keeps the bits beyond the cursor zero. -/
theorem Effect.unwrittenZero {i : Instr} {s u : State} (h : Effect s i u) (hinv : s.Inv) (hzero : s.UnwrittenZero) :
    u.UnwrittenZero := by
  have hlegal := hinv.cfg_legal
  cases h
  case nop | tblRead | frRead | seed | tblWrite | tblFill | tblLock | frPop | txPop => exact hzero
  case close | reset | txAbort | txSend => exact nofun
  case txBegin => exact fun _ p _ => by simp [Memory.readBit]
  case rxPush hbyte =>
    rw [deframeByte_changesDeframer hbyte]
    exact hzero
  case bitMode _ hbytes =>
    have hpos := toNat_bitPos hlegal (Nat.mul_le_mul_left 8 hinv.bytePos_bound)
    exact hzero.advance rfl ((State.cursor_of_bitMode rfl).trans hpos) (State.cursor_of_byteMode hbytes).le
      fun _ _ => rfl
  case byteMode _ hbits =>
    have hpos := toNat_bytePos hlegal (ceil8_le hinv.bitPos_bound)
    refine hzero.advance rfl ((State.cursor_of_byteMode rfl).trans (congrArg (8 * ·) hpos)) ?_ fun _ _ => rfl
    rw [State.cursor_of_bitMode hbits]
    exact le_mul_ceil8 _
  case wrBits n _ _ hbits hroom =>
    refine hzero.advance rfl ((State.cursor_of_bitMode (by exact hbits)).trans (toNat_bitPos hlegal hroom)) ?_
      fun p hp => readBit_bitsWritten_outside hinv.txBuf_wf (.inr hp)
    rw [State.cursor_of_bitMode hbits]
    exact Nat.le_add_right _ _
  case putBytes _ hbytes hroom _ => exact append_unwrittenZero hlegal hzero hbytes hroom
  case wrPlaceholder _ hbytes hroom _ => exact append_unwrittenZero (bs := [0]) hlegal hzero hbytes hroom

/-- RESULT, RVAL and ERRLOG are not the builder's. -/
theorem exec_unwrittenZero {i : Instr} {s t : State} (h : exec i s = .next t) (hinv : s.Inv) (hzero : s.UnwrittenZero) :
    t.UnwrittenZero := by
  obtain ⟨u, v, heffect, rfl⟩ | ⟨e, rfl⟩ := exec_effect h
  · exact heffect.unwrittenZero hinv hzero
  · exact hzero

/-- Settles O18, by what the step was: of them only commands and a reset change the builder. -/
theorem unwrittenBitsStayZero : Obligations.UnwrittenBitsStayZero := by
  intro s t hinv hzero hstep
  obtain ⟨t', hstep', hto⟩ := step_stepTo s
  obtain rfl : t' = t := Host.Outcome.next.inj (hstep'.symm.trans hstep)
  cases hto with
  | answer | release | illegal => exact hzero
  | reset => exact nofun
  | store _ rest r v =>
    cases r
    all_goals exact hzero
  | command hrst rest i hexec => exact exec_unwrittenZero hexec (answer_inv hinv hrst rest .written) hzero

end Sys2Proof.Machine
end

section
/-! SUPPORT. The TX FIFO as the host sees it: the backfilled placeholder bytes, the order TX_POP drains the bytes in, and
TXDRAIN (44_transmit.md, 30_encoding.md section 3). -/
namespace Sys2Proof.Machine

/-! ## Backfilled placeholders (44_transmit.md R302) -/

/-- Byte `j` of the payload stands behind the opcode byte and the framing bytes. -/
theorem outboundMessage_payload {s : State} (w : Word) {j : Nat} (h : j < s.txBytePos.toNat) :
    (outboundMessage s w)[1 + s.txMode.prefixBytes + j]? =
      some ((finalPayload s)[j]'(by simpa using h)) := by
  rw [outboundMessage, Nat.add_assoc, Nat.add_comm 1, List.getElem?_cons_succ,
    ← length_framingBytes s.txMode s.txBytePos.toNat, List.getElem?_append_right (Nat.le_add_right _ _),
    Nat.add_sub_cancel_left, List.getElem?_eq_getElem]

/-- A payload byte at a placeholder is its negated count. -/
theorem finalPayload_of_placeholder {s : State} {p : BitVec 16} (hp : p ∈ s.ph) (h : p.toNat < (finalPayload s).length) :
    (finalPayload s)[p.toNat] = negatedCount (s.txBytePos.toNat - p.toNat - 1) := by
  rw [getElem_finalPayload, if_pos ⟨p, hp, rfl⟩]

theorem negatedCount_add {c : Nat} (h : c ≤ 255) : ((negatedCount c).toNat + c) % 256 = 0 := by
  rw [negatedCount_toNat]
  omega

/-- Settles O43: TX_SEND has checked that every count fits a byte. -/
theorem placeholderBackfill : Obligations.PlaceholderBackfill := by
  intro s t p h hcode hp hlt
  obtain ⟨ks, -, -, -, hfits, -, rfl⟩ := exec_txSend_success h hcode
  refine ⟨fun _ => rfl, ?_⟩
  have hcount : s.txBytePos.toNat - p.toNat - 1 ≤ 255 :=
    not_lt.mp fun hlong => absurd (sendTooLong_iff.mpr (.inr ⟨p, hp, hlong⟩)) (by simp [hfits])
  have hbyte := (sentState_txq_byte ks s _).trans (outboundMessage_payload (ksNext ks.enc).2 hlt)
  rw [finalPayload_of_placeholder hp] at hbyte
  obtain ⟨e, he, hval⟩ := Option.map_eq_some_iff.mp hbyte
  refine ⟨e, ?_, ?_⟩
  · rw [Nat.add_assoc s.txq.length, Nat.add_assoc s.txq.length]
    exact he
  · rw [hval]
    exact negatedCount_add hcount

/-! ## Draining by TX_POP (44_transmit.md R310) -/

section TxPopAll
variable {s : State} {e : TxEntry} {rest : List TxEntry}

/-- What TX_POP makes of `s` with `e` first in TXQ. -/
def popped (e : TxEntry) (rest : List TxEntry) (s : State) : State := succeed 0x41 (rvalTxEntry e) { s with txq := rest }

theorem exec_txPop (h : s.txq = e :: rest) : exec (.txPop 0) s = .next (popped e rest s) :=
  exec_txPop_of_cons h

theorem txPopAll_succ (n : Nat) (h : s.txq = e :: rest) :
    txPopAll (n + 1) s = (rvalTxEntry e :: (txPopAll n (popped e rest s)).1, (txPopAll n (popped e rest s)).2) := by
  rw [txPopAll, exec_txPop h]
  rfl

theorem rvalTxEntry_fields (e : TxEntry) :
    ((rvalTxEntry e).extractLsb' 0 8, (rvalTxEntry e).getLsbD 8, (rvalTxEntry e).getLsbD 9)
      = (e.byte, e.isEnd, e.isStart) := by
  have hbyte : (rvalTxEntry e).extractLsb' 0 8 = e.byte := BitVec.extractLsb'_append_eq_right
  have hend : (rvalTxEntry e).getLsbD 8 = e.isEnd := by
    simp only [rvalTxEntry, BitVec.getLsbD_append]
    simp
  have hstart : (rvalTxEntry e).getLsbD 9 = e.isStart := by
    simp only [rvalTxEntry, BitVec.getLsbD_append]
    simp
  rw [hbyte, hend, hstart]

end TxPopAll

/-- Settles O46, by induction on the number of pops. -/
theorem txPopDrainsInOrder : Obligations.TxPopDrainsInOrder := by
  intro n s hn
  induction n generalizing s with
  | zero => exact ⟨rfl, rfl, rfl, rfl⟩
  | succ n ih =>
    obtain ⟨e, rest, htxq⟩ := List.exists_cons_of_length_pos (Nat.zero_lt_of_lt hn)
    have hn' : n ≤ rest.length := by simpa [htxq] using hn
    obtain ⟨hvalues, hrest, hsession, herrLog⟩ := ih (popped e rest s) hn'
    rw [txPopAll_succ n htxq, htxq]
    refine ⟨?_, hrest, hsession, herrLog⟩
    rw [List.map_cons, List.take_succ_cons, List.map_cons, rvalTxEntry_fields, hvalues]
    rfl

/-! ## TXDRAIN (30_encoding.md R117) -/

/-- `t` with what TXDRAIN may change as it is in `s`. -/
def restoreDrained (s t : State) : State :=
  { t with txq := s.txq, result := s.result, rval := s.rval, resp := s.resp }

section TxDrain
variable {s : State} (hrst : s.rst = false)
include hrst

theorem issue_readLevel :
    issue (hostRead s.cfg.kfbBase .txLevel) s = .next { s with resp := .readData (txLevelWord s) } := by
  rw [← readOffset_txLevel s]
  exact (issue_access hrst _).trans ((portAccess_read s 4 0x40).trans (if_pos (by decide)))

theorem issue_command (i : Instr) :
    issue (hostCommand s.cfg.kfbBase i) s = exec i { s with resp := .written } :=
  (issue_access hrst _).trans <| (portAccess_write s 4 0x08 (encode i)).trans <|
    (if_pos (by decide)).trans (commandWrite_of_ok (decodeOfEncode i) _)

/-- The round that finds TXQ empty is the last. -/
theorem txDrainLoop_of_empty (n : Nat) (htxq : s.txq = []) :
    txDrainLoop s.cfg.kfbBase (n + 1) s = .next { s with resp := .readData 0 } := by
  have hlevel : txLevelWord s = 0 := by simp [txLevelWord, htxq]
  rw [txDrainLoop, issue_readLevel hrst, hlevel]
  rfl

/-- A round that finds a byte takes it out. -/
theorem txDrainLoop_of_cons (n : Nat) {e : TxEntry} {rest : List TxEntry} (htxq : s.txq = e :: rest)
    (hbound : s.txq.length < 2 ^ 24) :
    txDrainLoop s.cfg.kfbBase (n + 1) s =
      txDrainLoop s.cfg.kfbBase n (popped e rest { s with resp := .written }) := by
  have hlevel : txLevelWord s ≠ 0 := by
    intro hzero
    have hlength := txLevelWord_toNat hbound
    simp [hzero, htxq] at hlength
  have hpop : issue (hostCommand s.cfg.kfbBase (.txPop 0)) { s with resp := .readData (txLevelWord s) } =
      .next (popped e rest { s with resp := .written }) :=
    (issue_command (s := { s with resp := .readData (txLevelWord s) }) hrst (.txPop 0)).trans (exec_txPop htxq)
  rw [txDrainLoop, issue_readLevel hrst]
  simp only [hlevel, if_false, hpop]

end TxDrain

/-- One round for each byte of TXQ, and the one that reads 0. -/
theorem txDrainLoop_empties (q : List TxEntry) {s : State} (hrst : s.rst = false) (htxq : s.txq = q)
    (hbound : q.length < 2 ^ 24) :
    ∃ t, txDrainLoop s.cfg.kfbBase (q.length + 1) s = .next t ∧ t.txq = [] ∧ t.resp = .readData 0 ∧
      restoreDrained s t = s := by
  induction q generalizing s with
  | nil => exact ⟨_, txDrainLoop_of_empty hrst 0 htxq, htxq, rfl, rfl⟩
  | cons e rest ih =>
    obtain ⟨t, hloop, hempty, hresp, hframe⟩ :=
      ih (s := popped e rest { s with resp := .written }) hrst rfl (Nat.lt_of_succ_lt hbound)
    refine ⟨t, (txDrainLoop_of_cons hrst _ htxq (htxq ▸ hbound)).trans hloop, hempty, hresp, ?_⟩
    exact (congrArg (restoreDrained s) hframe :)

/-- Settles O58: TXDRAIN has one round more than TXQ has bytes. -/
theorem txDrainEmptiesFifo : Obligations.TxDrainEmptiesFifo :=
  fun s hrst hbound => txDrainLoop_empties s.txq hrst rfl hbound

end Sys2Proof.Machine
end
